-- ==== Sys2Proof/Word.lean ====
section
/-! DEFINITION. The words of the part: bytes, 36-byte slots, and the two fixed slot contents of the
Introduction (Content Codes). -/

namespace Sys2Proof

/-- A byte; bit 0 is the least significant (Section 11). -/
abbrev Byte := BitVec 8

/-- A slot of 36 bytes, the unit of switching (Section 2); its first byte is the most significant. -/
abbrev Slot := BitVec 288

/-- A trace: 16 characters of 7 bits (R102). -/
abbrev Trace := Vector (BitVec 7) 16

/-- Idle content: every byte of the slot is 2A hex. -/
def idleSlot : Slot := 0x2A2A2A2A2A2A2A2A2A2A2A2A2A2A2A2A2A2A2A2A2A2A2A2A2A2A2A2A2A2A2A2A2A2A2A2A#288

/-- AIS content: every byte of the slot is FF hex. -/
def aisSlot : Slot := 0xFFFFFFFFFFFFFFFFFFFFFFFFFFFFFFFFFFFFFFFFFFFFFFFFFFFFFFFFFFFFFFFFFFFFFFFF#288

/-- The alignment word 3D C2 hex (R200). -/
def alignmentWord : BitVec 16 := 0x3DC2#16

end Sys2Proof
end

