-- ==== Sys2Proof/Config.lean ====
section
/-! DEFINITION. What one part fixes, and the one value the spec leaves open. -/

namespace Sys2Proof

/-- FREE VALUE, log entry 15 (DESIGN CHOICE). The press count of ALARM entry 106 (R170, R204) is one byte, and the
spec states neither an upper end of the count nor the byte sent for a count above 255. Nothing constrains this byte. -/
opaque Config.pressCountByte : Nat → Byte

/-- Bytes of a shelf frame (R200). -/
def Config.frameBytes : Nat := 1456

/-- A quarter frame, the lower edge of the fill band (R15). -/
def Config.fillLow : Nat := 364

/-- One and three quarter frames, the upper edge of the fill band (R15). -/
def Config.fillHigh : Nat := 2548

/-- Local frame starts that a raise soak lasts (R156). -/
def Config.raiseSoak : Nat := 20000

/-- One-second ticks that a clear soak lasts (R157). -/
def Config.clearSoak : Nat := 10

/-- Places of the Record Queue (R175). -/
def Config.queuePlaces : Nat := 64

/-- Local frames of one unit of 100 ms (Introduction, Units of Time). -/
def Config.framesPer100ms : Nat := 800

/-- Clocks after the multiframe mark within which an arrival is claimed as a phase sample (R88, R134). -/
def Config.sampleWindow : Nat := 4098

/-- Clocks a conversion takes (R84). -/
def Config.conversionClocks : Nat := 8

/-- Clocks of a vernier's calibration turn (R85). -/
def Config.turnClocks : Nat := 64

/-- Local frame starts after a departure at which its echo is given up (R114). -/
def Config.echoFrames : Nat := 4

/-- LSB that a pending echo is held at the least (R112): 64 clocks. -/
def Config.echoHold : Int := 16384

/-- Count at which the confirm timer expires and at which agreement ends PSF (R76, R78). -/
def Config.agreementFrames : Nat := 400

/-- Largest size of I and FW (R148). -/
def Config.wordLimit : Int := 2047

/-- LSB of one nominal frame, by which a phase difference is wrapped (R136, R147). -/
def Config.frameLsb : Int := 1048576

/-- Largest size of a drift estimate that is not a REF defect (R137). -/
def Config.driftLimit : Int := 160

end Sys2Proof
end

