-- ==== Sys2Proof/Syntax.lean ====
section
/-! DEFINITION. The commands: one constructor per row of spec/opcode_table.json. The table gives no operands;
those here are what the row's rule needs from outside the part (log entry 30). -/

namespace Sys2Proof

/-- The seven strap pins (R198). -/
structure Straps where
  station : BitVec 4
  mg : BitVec 2
  defmap : Bool
  deriving DecidableEq, Repr

/-- When an arrival is latched, and what a vernier reads of it (R84): `clk` counts the clock edges from the latest
local frame start to the edge that latches the coarse count; `tap` is the vernier reading. -/
structure Arrival where
  clk : Nat
  tap : BitVec 6
  deriving DecidableEq, Repr

/-- A pulse edge of a station input's divider (R135): the rising edges counted since the last count, of which the last
is the pulse edge, and its arrival. -/
structure PulseEdge where
  edges : Nat
  arrival : Arrival
  deriving DecidableEq, Repr

/-- A shelf frame: 16 overhead bytes and 40 payload slots (R200). -/
structure LineFrame where
  overhead : Vector Byte 16
  payload : Vector Slot 40
  deriving DecidableEq, Repr

/-- What the outside gives the part at a local frame start: for each port the bytes of its newest frame written so
far (R14), the rising edges of each station input in the frame just ended, and when in it the input's divider gave a
pulse that no STATION_PULSE has reported (R135; log entry 21), the level of the ACO input (R169), and the slots of the backplane frame that each backplane port has just received whole (R28). -/
structure FrameInputs where
  written : Vector Nat 8
  edges : Vector Nat 2
  pulses : Vector Arrival 2
  aco : Bool
  slots : Vector (Vector Slot 128) 2
  deriving DecidableEq, Repr

/-- The two members of a protection group, and the two channels named after them (Introduction, Naming). -/
inductive Member where
  | w | p
  deriving DecidableEq, Repr

/-- The two conditions of a member (R47). -/
inductive Condition where
  | sf | sd
  deriving DecidableEq, Repr

/-- The ten kinds that a line port carries (R152). -/
inductive PortKind where
  | los | lof | exc | tim | loop | deg | len | slip | aud | ref
  deriving DecidableEq, Repr

/-- The 106 alarm cells of R152, by source and kind. -/
inductive AlarmId where
  | port (p : Fin 8) (k : PortKind)
  | psf (g : Fin 8)
  | unprot (g : Fin 8)
  | stationLos (i : Fin 2)
  | stationRef (i : Fin 2)
  | hold | free | cal | qovf | mstn | mlost
  deriving DecidableEq, Repr

/-- The commands. A row that is a step of the part names the port, group, candidate or alarm it is about; a row
that is a management command carries its tag and its argument bytes as received (R202). -/
inductive Instr where
  | reset (straps : Straps)
  | pendingRestartActs (straps : Straps)
  | signalDetectLow (p : Fin 8)
  | signalDetectHigh (p : Fin 8)
  | losDebounceEnd (p : Fin 8)
  | find (p : Fin 8) (window : BitVec 16) (offset : Nat)
  | confirmWord (p : Fin 8) (word : BitVec 16)
  | frameReceivedInSync (p : Fin 8) (arrival : Arrival) (frame : LineFrame)
  | syncLoss (p : Fin 8)
  | multiframeAligned (p : Fin 8)
  | multiframeAlignmentLost (p : Fin 8) (index : BitVec 4)
  | lofPresent (p : Fin 8)
  | lofAbsent (p : Fin 8)
  | localFrameStart (inputs : FrameInputs)
  | firstRead (p : Fin 8) (written : Nat)
  | stationLosEnd (i : Fin 2) (edges : Nat)
  | oneSecondTick
  | excAbsent (p : Fin 8)
  | degPresent (p : Fin 8)
  | degAbsent (p : Fin 8)
  | holdOffExpiry (g : Fin 8) (m : Member) (c : Condition)
  | wtrExpiry (g : Fin 8)
  | switchSignalAccepted (g : Fin 8)
  | confirmTimerExpiry (g : Fin 8)
  | psfEnd (g : Fin 8)
  | stationPulse (i : Fin 2) (pulse : PulseEdge)
  | stampComplete (v : Fin 4)
  | phaseSampleMissing (k : Fin 10)
  | refPresent (k : Fin 10)
  | refAbsent (k : Fin 10)
  | enterLocked
  | unlock
  | referenceHoldOffExpiry (k : Fin 10)
  | referenceWtrExpiry (k : Fin 10)
  | qualityAccepted (p : Fin 8)
  | calibrationTurnEnd (readings : Vector Nat 64)
  | traceAccepted (p : Fin 8)
  | echo (p : Fin 8)
  | auditStart
  | markerDeparture
  | echoTimeout
  | suspension (p : Fin 8)
  | periodicTimerExpiry (p : Fin 8)
  | windowExpired (p : Fin 8)
  | raiseSoakEnd (a : AlarmId)
  | clearSoakEnd (a : AlarmId)
  | acoPress
  | mstnTimerExpiry
  | commandMessage (bytes : List Byte)
  | read (tag object first count : Byte)
  | readUnit (tag first count : Byte)
  | write (tag object first : Byte) (entries : List Byte)
  | writePort (tag first : Byte) (entries : List Byte)
  | writeGroup (tag first : Byte) (entries : List Byte)
  | writeMap (tag first : Byte) (entries : List Byte)
  | writeCable (tag first : Byte) (entries : List Byte)
  | writeReference (tag first : Byte) (entries : List Byte)
  | writeTiming (tag first : Byte) (entries : List Byte)
  | writeProfile (tag first : Byte) (entries : List Byte)
  | writeAssign (tag first : Byte) (entries : List Byte)
  | writeUnit (tag first : Byte) (entries : List Byte)
  | requestLock (tag group : Byte)
  | requestForce (tag group : Byte)
  | requestManP (tag group : Byte)
  | requestManW (tag group : Byte)
  | requestClear (tag group : Byte)
  | patchOpen (tag port minutes override : Byte)
  | patchClose (tag port minutes override : Byte)
  | measure (tag port burst : Byte)
  | fetch (tag n : Byte)
  | clear (tag source kind : Byte)
  | aco (tag : Byte)
  | calibrate (tag : Byte)
  | reinit (tag : Byte)
  | restart (tag : Byte)
  | replyBegin
  | replySent
  | deferredChangeApplied
  deriving DecidableEq, Repr

end Sys2Proof
end

