-- ==== Sys2Proof/Machine/State.lean ====
section
/-! DEFINITION. The state of the part, block by block, and its value right after a cold restart. Plain data. -/

namespace Sys2Proof.Machine

open Sys2Proof

/-- Nothing in the spec stops the part: no command raises a fault. -/
inductive Fault where
  deriving DecidableEq, Repr

/-- Why a command has no meaning. -/
inductive Refusal where
  /-- Raised by exec's arm for a command without a meaning; safe, since nothing is claimed of it. No arm raises it. -/
  | notModelled (mnemonic : String)
  deriving DecidableEq, Repr

/-! ## Line ports (Section 1) -/

/-- The receiver's alignment states (R1 to R3). -/
inductive Align where
  | hunt | confirm | sync
  deriving DecidableEq, Repr

/-- The loopback settings (1.9). -/
inductive Loopback where
  | normal | facility | terminal
  deriving DecidableEq, Repr

/-- The settings record of a port (R23). -/
structure PortSettings where
  xt : Nat
  dt : Nat
  dm : Nat
  loopback : Loopback
  txEnabled : Bool
  deriving DecidableEq, Repr

/-- The elastic store of a port (R14, R15): the frames taken in and not yet read, oldest first, whether the first
read since the entry to SYNC has been made, and the frame that the read side reads in this local frame. -/
structure Store where
  frames : List LineFrame
  firstRead : Bool
  reading : Option LineFrame
  deriving DecidableEq, Repr

/-- A line port: receive side, transmit side and settings (Section 1). -/
structure Port where
  settings : PortSettings
  /-- The loopback in use; a written one takes effect at the next local frame start (R22). -/
  loopback : Loopback
  align : Align
  /-- Bit position, counted from where the running search began, that the search goes on from (R1, R2). -/
  searchFrom : Nat
  /-- Bit position of the candidate frame start (R1). -/
  candidate : Nat
  /-- Alignment words found in CONFIRM so far (R2). -/
  confirmed : Nat
  errored : Nat
  aligned : Bool
  expected : BitVec 4
  predecessor : Option (BitVec 4)
  inSequence : Nat
  mismatched : Bool
  /-- Level of the signal-detect input. -/
  sd : Bool
  los : Bool
  losCount : Nat
  lof : Bool
  outCount : Nat
  inCount : Nat
  exc : Bool
  deg : Bool
  slip : Bool
  /-- The running second has been available so far (R11). -/
  available : Bool
  perSecond : Nat
  lastSecond : Nat
  total : Nat
  belowXt : Nat
  degradedRun : Nat
  cleanRun : Nat
  slipCount : Nat
  /-- A slip occurred in the running second (R16). -/
  slipped : Bool
  /-- Parity computed over the frame received in SYNC before (R8). -/
  computed : Option Byte
  /-- Bridged flag of the frame received in SYNC before (R9). -/
  bridged : Option Bool
  blanking : Nat
  store : Store
  /-- Parity byte of the next frame sent (R18). -/
  txParity : Byte
  /-- The frame being sent in this local frame (R17). -/
  txFrame : Option LineFrame
  deriving DecidableEq, Repr

/-! ## Slot Switch (Section 2) -/

/-- A Slot Map entry (2.2). -/
inductive MapEntry where
  | unequipped
  | mapped (group : Fin 8) (slot : Fin 40)
  deriving DecidableEq, Repr

/-- A backplane frame as sent toward the cards (R27, R201). -/
structure BackplaneFrame where
  index : BitVec 4
  slots : Vector Slot 128
  flags : BitVec 128
  deriving DecidableEq, Repr

/-- The Slot Switch: the two copies of the map (R29), the held frames (R28) and the frames being sent (R27). -/
structure SlotSwitch where
  storedMap : Vector MapEntry 256
  mapInUse : Vector MapEntry 256
  held : Vector (Vector Slot 128) 2
  sent : Vector (Option BackplaneFrame) 2
  deriving DecidableEq, Repr

/-! ## Protection groups (Sections 3 and 4) -/

/-- Group architecture (R41). -/
inductive Arch where
  | pair | spare
  deriving DecidableEq, Repr

/-- Group direction (R41). -/
inductive Direction where
  | oneEnd | bothEnds
  deriving DecidableEq, Repr

/-- A Group Table record (R41). -/
structure GroupRecord where
  working : Option (Fin 8)
  protection : Option (Fin 8)
  arch : Arch
  direction : Direction
  revertive : Bool
  holdOff : Nat
  wtr : Nat
  degrade : Bool
  deriving DecidableEq, Repr

/-- The stored operator request (3.3). -/
inductive Operator where
  | none | lock | force | manP | manW
  deriving DecidableEq, Repr

/-- The restore request (3.4). -/
inductive Restore where
  | none | wait | hold
  deriving DecidableEq, Repr

/-- The local requests of R49. -/
inductive LocalRequest where
  | lock | patchP | failP | force | patchW | failW | degrP | degrW | manP | manW | wait | hold | none
  deriving DecidableEq, Repr

/-- A switch signal: the six fields of 4.1. -/
structure SwitchSignal where
  request : BitVec 4
  channel : Member
  bridged : Bool
  arch : Arch
  direction : Direction
  group : BitVec 3
  deriving DecidableEq, Repr

/-- The cause of PSF (R76, R77). -/
inductive PsfCause where
  | timeout | mismatch
  deriving DecidableEq, Repr

/-- The protocol states (R69). -/
inductive Protocol where
  | idle | steady | switching | fallback
  deriving DecidableEq, Repr

/-- Hold-off count of one condition, and the condition after hold-off (R48). -/
structure HoldOff where
  count : Nat
  after : Bool
  deriving DecidableEq, Repr

/-- A protection group: its record and its dynamic state (3.1, 4.5). -/
structure Group where
  record : GroupRecord
  selector : Member
  bridge : Bool
  sfW : HoldOff
  sdW : HoldOff
  sfP : HoldOff
  sdP : HoldOff
  operator : Operator
  markW : Bool
  markP : Bool
  restore : Restore
  wtrCount : Option Nat
  top : LocalRequest
  accepted : Option SwitchSignal
  candidate : Option SwitchSignal
  run : Nat
  txRequest : BitVec 4
  txChannel : Member
  txBridged : Bool
  confirm : Option Nat
  psf : Option PsfCause
  agreement : Nat
  protocol : Protocol
  unprot : Bool
  /-- This local frame is a guard frame of the group (R34). -/
  guard : Bool
  /-- The port selected at the last local frame start (R45). -/
  selectedPort : Option (Fin 8)
  /-- A group write reset this group since its last evaluation (R45). -/
  rewritten : Bool
  deriving DecidableEq, Repr

/-! ## Interval Measurement Unit (Section 5) -/

/-- A stamp (R82, R84, R90): the latched coarse count, with the vernier reading and calibration of an arrival. -/
inductive Stamp where
  | exact (c : BitVec 24)
  | fine (c : BitVec 24) (f cal : Nat)
  | coarse (c : BitVec 24)
  deriving DecidableEq, Repr

/-- A conversion in progress (R84): its stamp, the clock at which it is complete, and its claimants: the candidate
whose phase sample it is, and the turnaround field of a marker echo for the active audit (R88). -/
structure Conversion where
  stamp : Stamp
  due : Nat
  candidate : Option (Fin 10)
  echo : Option (BitVec 24)
  deriving DecidableEq, Repr

/-- The state of a vernier (R83); BUSY holds its conversion. -/
inductive VernierState where
  | free
  | busy (conversion : Conversion)
  | calibrating
  | calFault
  deriving DecidableEq, Repr

/-- A vernier (R83, R86). -/
structure Vernier where
  state : VernierState
  cal : Option Nat
  lastResult : Option Nat
  faulted : Bool
  deriving DecidableEq, Repr

/-- A running calibration round (R85): the vernier whose turn it is, whether the turn has begun, and when it began. -/
structure Round where
  turn : Fin 4
  begun : Bool
  since : Nat
  deriving DecidableEq, Repr

/-- A present delay sample (R95). -/
structure Sample where
  rt : Int
  ta : Int
  delay : Nat
  coarse : Bool
  assumed : Bool
  implausible : Bool
  deriving DecidableEq, Repr

/-- A sample slot of the burst record (R93, R94); an outstanding one holds its departure stamp, the local frame it
departed in, and whether its echo has been found and awaits its stamp. -/
inductive SampleSlot where
  | pending
  | outstanding (departure : Stamp) (frame : Nat) (found : Bool)
  | present (sample : Sample)
  | missing
  deriving DecidableEq, Repr

/-- The burst record (R93). -/
structure Burst where
  port : Fin 8
  adHoc : Bool
  ofs : Int
  defaultTa : Option Nat
  spreadLimit : Nat
  slots : List SampleSlot
  deriving DecidableEq, Repr

/-- The result of an audit (R97); a failed audit has no delay and no spread. -/
structure AuditResult where
  completed : Bool
  burst : Nat
  present : Nat
  delay : Option Nat
  spread : Option Nat
  coarse : Bool
  assumed : Bool
  implausible : Bool
  unstable : Bool
  deriving DecidableEq, Repr

/-- The Interval Measurement Unit (Section 5). -/
structure Imu where
  /-- Clock edges since the cold restart; the time counter is its low 24 bits (R81). -/
  clk : Nat
  /-- Clock of the latest frame mark (R81). -/
  frameStart : Nat
  /-- Clock of the latest multiframe mark (R81). -/
  multiframeStart : Nat
  verniers : Vector Vernier 4
  round : Option Round
  roundPending : Bool
  coarseCount : Nat
  calDefect : Bool
  burst : Option Burst
  lastAudit : Option (Burst × AuditResult)
  deriving DecidableEq, Repr

/-! ## Cable Supervisor (Section 6) -/

/-- A Cable Table record (R102). -/
structure CableRecord where
  expected : Trace
  check : Bool
  transmitted : Trace
  dmin : Nat
  dmax : Nat
  ofs : Int
  defaultTa : Option Nat
  burst : Nat
  period : Nat
  spreadLimit : Nat
  dark : Bool
  deriving DecidableEq, Repr

/-- The verdicts (R109). -/
inductive Verdict where
  | unverified | traceOk | verified | misconnected | looped | length | patching
  deriving DecidableEq, Repr

/-- An open patch window (R123). -/
structure PatchWindow where
  remaining : Nat
  override : Bool
  deriving DecidableEq, Repr

/-- A running periodic timer (R117). -/
structure PeriodicTimer where
  count : Nat
  target : Nat
  deriving DecidableEq, Repr

/-- The Cable Supervisor's state of one port: its Cable Table record and the state of 6.2 to 6.6. -/
structure Cable where
  record : CableRecord
  /-- The transmitted trace used throughout this local multiframe (R105). -/
  txTrace : Trace
  traceCandidate : Option Trace
  traceRun : Nat
  /-- Characters of the multiframe being collected, start mark in bit 7; absent when none is being collected (R106). -/
  collecting : Option (List Byte)
  /-- The last three collected multiframes, oldest first (R106). -/
  captures : List (List Byte)
  accepted : Option Trace
  verdict : Verdict
  pendingVerdict : Option Verdict
  pendingEcho : Option Stamp
  /-- The vernier whose conversion will give the stamp of a request received since (R84, R112). -/
  awaited : Option (Fin 4)
  suspended : Bool
  failures : Nat
  lastResult : Option AuditResult
  timer : Option PeriodicTimer
  window : Option PatchWindow
  /-- The delay of the last audit that gave LENGTH, as verdict or pending verdict (R109). -/
  lenDelay : Nat
  /-- The turnaround of the echo that the coming frame of this port carries (R112). -/
  echoOut : Option (BitVec 24)
  /-- The coming frame of this port carries MREQ (R113). -/
  markerOut : Bool
  deriving DecidableEq, Repr

/-- An entry of the audit queue (R115). -/
structure AuditEntry where
  port : Fin 8
  adHoc : Bool
  burst : Option Nat
  deriving DecidableEq, Repr

/-- Where the active audit stands with its markers (R113): draws made, the drawn index not yet reached, markers
whose index has been reached and that have not departed, and the local frame the last draw was made in. -/
structure Markers where
  draws : Nat
  drawn : Option (BitVec 4)
  due : Nat
  drawnIn : Nat
  deriving DecidableEq, Repr

/-- The Cable Supervisor (Section 6). -/
structure Csv where
  cables : Vector Cable 8
  audits : List AuditEntry
  dither : BitVec 16
  markers : Markers
  /-- The local frame at whose start an audit last ended, 0 for none (R116). -/
  endedAt : Nat
  deriving DecidableEq, Repr

/-! ## Timing Unit (Section 7) -/

/-- A Reference Table entry (R130). -/
structure RefEntry where
  enabled : Bool
  priority : Nat
  fixedSource : Bool
  fixedQ : BitVec 4
  deriving DecidableEq, Repr

/-- The candidate states (7.5). -/
inductive CandState where
  | disabled | failed | wait | available
  deriving DecidableEq, Repr

/-- A candidate: its entry and its monitoring (R130, R134 to R140). -/
structure Cand where
  entry : RefEntry
  /-- The entry as of the last local frame start, from which priority, source and fixed Q act (R130). -/
  inUse : RefEntry
  state : CandState
  holdOff : Option Nat
  wtr : Option Nat
  previousR : Option Int
  drifts : List Int
  lastR : Option (Int × Bool)
  missing : Nat
  good : Nat
  ref : Bool
  /-- Eligible, as judged at the last local frame start (R140). -/
  eligible : Bool
  /-- The claim of this multiframe is in force (R88, R134). -/
  claim : Bool
  deriving DecidableEq, Repr

/-- The timing modes (R131). -/
inductive TimingMode where
  | auto | forced (k : Fin 10) | free | hold
  deriving DecidableEq, Repr

/-- The timing settings (R131). -/
structure TimingSettings where
  kp : Nat
  ki : Nat
  threshold : Nat
  worstQ : BitVec 4
  mode : TimingMode
  holdOff : Nat
  wtr : Nat
  deriving DecidableEq, Repr

/-- The timing states (Section 7). -/
inductive TimingState where
  | freeRun | acquire | locked | holdover
  deriving DecidableEq, Repr

/-- The quality filter of a port (R133). -/
structure QualityFilter where
  candidate : Option (BitVec 4)
  run : Nat
  accepted : Option (BitVec 4)
  deriving DecidableEq, Repr

/-- A station input (R135): LOS presence, the run of good local frames, the divider's count of edges, and the edges of
the running local frame that STATION_PULSE has already counted. -/
structure StationInput where
  los : Bool
  run : Nat
  divider : Nat
  counted : Nat
  deriving DecidableEq, Repr

/-- The Timing Unit with its frame generator (Section 7). -/
structure Tmu where
  acc : Int
  fw : Int
  integral : Int
  frameCount : Nat
  seconds : Nat
  /-- Local frame starts since the cold restart, the model's own count. -/
  frameNo : Nat
  /-- Clock at which the running local frame ends (R128). -/
  nextStart : Nat
  /-- A local frame start has been made since the cold restart (R129). -/
  started : Bool
  cands : Vector Cand 10
  settings : TimingSettings
  /-- The mode as of the last local frame start (R131). -/
  modeInUse : TimingMode
  quality : Vector QualityFilter 8
  stations : Vector StationInput 2
  state : TimingState
  selected : Option (Fin 10)
  anchor : Option Int
  lastError : Option Int
  lockCount : Nat
  unlockCount : Nat
  outQ : Vector (BitVec 4) 8
  deriving DecidableEq, Repr

/-! ## Alarm Unit and Record Queue (Sections 8 and 9) -/

/-- The alarm states (8.3). -/
inductive AlarmState where
  | idle | raising | active | clearing | latched
  deriving DecidableEq, Repr

/-- The modes of a profile (8.2). -/
inductive Mode where
  | off | report | auto | latch
  deriving DecidableEq, Repr

/-- The severities (8.2). -/
inductive Severity where
  | crit | maj | min | note
  deriving DecidableEq, Repr

/-- A profile's entry for one kind (R154). -/
structure ProfileEntry where
  mode : Mode
  severity : Severity
  deriving DecidableEq, Repr

/-- One alarm cell of R152. -/
structure Alarm where
  present : Bool
  state : AlarmState
  soak : Option Nat
  flag : Bool
  held : Option Severity
  value : Option Nat
  deriving DecidableEq, Repr

/-- The relay outputs (R168, R169); true is energized. -/
structure Relays where
  crit : Bool
  maj : Bool
  min : Bool
  aud : Bool
  deriving DecidableEq, Repr

/-- The Alarm Unit (Section 8). -/
structure Alu where
  alarms : Vector Alarm 106
  profiles : Vector ProfileEntry 72
  assigned : Vector (Fin 4) 19
  /-- The PATCH profile is in use on the port (R155, R167). -/
  patched : Vector Bool 8
  relays : Relays
  pressCount : Nat
  /-- A local frame start has found the ACO input released since the last press or restart (R169). -/
  pressArmed : Bool
  deriving DecidableEq, Repr

/-- The transitions of an alarm record (R162). -/
inductive Transition where
  | raised | cleared | held | released
  deriving DecidableEq, Repr

/-- The causes of a PATCH record (R174). -/
inductive PatchCause where
  | opened | openOverride | closed | expired
  deriving DecidableEq, Repr

/-- The two restarts. -/
inductive RestartKind where
  | cold | warm
  deriving DecidableEq, Repr

/-- What a record reports (R173, R174): its source, kind, transition, severity and value. -/
inductive Report where
  | alarm (a : AlarmId) (t : Transition) (sev : Severity) (value : Option Nat)
  | switch (g : Fin 8) (member : Member) (code : BitVec 4) (farEnd : Bool)
  | refsel (state : TimingState) (reference : Option (Fin 10))
  | audit (p : Fin 8) (result : AuditResult)
  | patch (p : Fin 8) (cause : PatchCause)
  | restart (kind : RestartKind)
  | lost (n : Nat)
  deriving DecidableEq, Repr

/-- A record of the Record Queue (R173). -/
structure Record where
  sequence : Nat
  seconds : Nat
  frame : Nat
  report : Report
  deriving DecidableEq, Repr

/-- The five news flags (R179). -/
structure News where
  newRecord : Bool
  traffic : Bool
  timing : Bool
  measure : Bool
  fault : Bool
  deriving DecidableEq, Repr

/-- The Record Queue (Section 9). -/
structure RecordQueue where
  records : List Record
  sequence : Nat
  lost : Nat
  news : News
  deriving DecidableEq, Repr

/-! ## Management Channel Interface (Section 10) -/

/-- The receive state, with the bytes it has taken (R185). -/
inductive RxState where
  | hunt
  | length
  | body (len : Nat) (taken : List Byte)
  | check (len : Nat) (taken : List Byte) (high : Option Byte)
  deriving DecidableEq, Repr

/-- What waits for a reply to be sent (R195, R196). -/
inductive ReplyEffect where
  | plain | deferred | restart
  deriving DecidableEq, Repr

/-- A queued reply: its bytes on the wire (R191, R202) and what waits for it. -/
structure Reply where
  bytes : List Byte
  effect : ReplyEffect
  deriving DecidableEq, Repr

/-- The Management Channel Interface (Section 10). -/
structure Mci where
  straps : Straps
  group : Fin 8
  source : Option (Fin 8)
  rx : RxState
  replies : List Reply
  /-- Bytes of the first reply already sent, while it is being sent (R191). -/
  sending : Option Nat
  /-- The two management bytes of this local frame (R191). -/
  out : Byte × Byte
  badCrc : Nat
  dropped : Nat
  foreign : Nat
  mstn : Option Nat
  mlost : Bool
  pendingRecord : Option GroupRecord
  pendingNumber : Option (Fin 8)
  restart : Option RestartKind
  deriving DecidableEq, Repr

/-! ## Inputs and the coming local frame start -/

/-- Levels of the pins, and what the outside gave at the last local frame start. -/
structure Inputs where
  straps : Straps
  frame : FrameInputs
  deriving DecidableEq, Repr

/-- The judgements of a local frame start that a command may take ahead of LOCAL_FRAME_START (log entry 2). -/
inductive Judgement where
  | store (p : Fin 8)
  | exc (p : Fin 8)
  | deg (p : Fin 8)
  | los (p : Fin 8)
  | lof (p : Fin 8)
  | cand (k : Fin 10)
  | wtr (k : Fin 10)
  | group (g : Fin 8)
  | station (i : Fin 2)
  | periodic (p : Fin 8)
  | window (p : Fin 8)
  | mstn
  | press
  | tick
  deriving DecidableEq, Repr

/-- The instant of the coming local frame start: whether it has been opened (the generator has advanced), whether it
is a one-second tick, and which of its judgements have been made (log entry 2). -/
structure Instant where
  opened : Bool
  tick : Bool
  done : List Judgement
  deriving DecidableEq, Repr

/-- The whole part, with the queue of the commands that wait. -/
structure State where
  pending : List Instr
  inputs : Inputs
  moment : Instant
  ports : Vector Port 8
  ssw : SlotSwitch
  groups : Vector Group 8
  imu : Imu
  csv : Csv
  tmu : Tmu
  alu : Alu
  queue : RecordQueue
  mci : Mci
  deriving DecidableEq, Repr

/-! ## Values after a cold restart -/

/-- Settings of a port after a cold restart (R23). -/
def PortSettings.cold : PortSettings :=
  { xt := 800, dt := 8, dm := 7, loopback := .normal, txEnabled := true }

/-- A port after a cold restart, for the level of its signal-detect input (R25; log entries 9, 10). -/
def Port.cold (sd : Bool) : Port :=
  { settings := .cold, loopback := .normal, align := .hunt, searchFrom := 0, candidate := 0, confirmed := 0,
    errored := 0, aligned := false, expected := 0, predecessor := none, inSequence := 0, mismatched := false,
    sd := sd, los := !sd, losCount := 0, lof := true, outCount := 24, inCount := 0,
    exc := false, deg := false, slip := false, available := sd,
    perSecond := 0, lastSecond := 0, total := 0, belowXt := 0, degradedRun := 0, cleanRun := 0,
    slipCount := 0, slipped := false, computed := none, bridged := none, blanking := 0,
    store := { frames := [], firstRead := false, reading := none },
    txParity := 0x00#8, txFrame := none }

/-- The default Slot Map entry `n` with DEFMAP = 1 (R39). -/
def MapEntry.default (n : Fin 256) : MapEntry :=
  if h : n.val < 40 then .mapped 0 ⟨n.val, h⟩
  else if h : n.val < 80 then .mapped 1 ⟨n.val - 40, by omega⟩
  else if n.val < 128 then .unequipped
  else if h : n.val < 168 then .mapped 2 ⟨n.val - 128, by omega⟩
  else if h : n.val < 208 then .mapped 3 ⟨n.val - 168, by omega⟩
  else .unequipped

/-- The map set by the DEFMAP strap (R39). -/
def SlotSwitch.coldMap (defmap : Bool) : Vector MapEntry 256 :=
  if defmap then Vector.ofFn MapEntry.default else Vector.replicate 256 .unequipped

/-- The Slot Switch after a cold restart (R28, R39). -/
def SlotSwitch.cold (defmap : Bool) : SlotSwitch :=
  { storedMap := coldMap defmap, mapInUse := coldMap defmap,
    held := Vector.replicate 2 (Vector.replicate 128 idleSlot), sent := Vector.replicate 2 none }

/-- The group record of group `g` after a cold restart (R64). -/
def GroupRecord.cold (straps : Straps) (g : Fin 8) : GroupRecord :=
  let defined := if straps.defmap then decide (g.val < 4) else decide (g.val = straps.mg.toNat)
  { working := if defined then some ⟨2 * g.val % 8, by omega⟩ else none
    protection := if defined then some ⟨(2 * g.val + 1) % 8, by omega⟩ else none
    arch := .pair, direction := .oneEnd, revertive := true, holdOff := 0, wtr := 30, degrade := true }

/-- A hold-off count at 0 with its condition clear. -/
def HoldOff.clear : HoldOff := { count := 0, after := false }

/-- The bridge that a reset leaves: set for PAIR, but an unprotected group has none (R45, R62; log entry 37). -/
def GroupRecord.bridged (r : GroupRecord) : Bool := r.arch == .pair && (r.working.isNone || r.protection.isSome)

/-- The dynamic state of a group after an accepted write and after a cold restart (R45, R64, R80), for its record,
the UNPROT presence that the reset leaves, and the port that was selected at the last local frame start. -/
def Group.fresh (r : GroupRecord) (unprot : Bool) (selectedPort : Option (Fin 8)) (guard rewritten : Bool) : Group :=
  { record := r, selector := .w, bridge := r.bridged, sfW := .clear, sdW := .clear, sfP := .clear, sdP := .clear,
    operator := .none, markW := false, markP := false, restore := .none, wtrCount := none, top := .none,
    accepted := none, candidate := none, run := 0, txRequest := 0, txChannel := .w, txBridged := r.arch == .pair,
    confirm := none, psf := none, agreement := 0, protocol := .idle, unprot := unprot, guard := guard,
    selectedPort := selectedPort, rewritten := rewritten }

/-- A group after a cold restart (R64). -/
def Group.cold (straps : Straps) (g : Fin 8) : Group :=
  let r := GroupRecord.cold straps g
  Group.fresh r false r.working false false

/-- The Interval Measurement Unit after a cold restart (R101). -/
def Imu.cold : Imu :=
  { clk := 0, frameStart := 0, multiframeStart := 0,
    verniers := Vector.ofFn fun v =>
      { state := if v = 0 then .calibrating else .free, cal := none, lastResult := none, faulted := false }
    round := some { turn := 0, begun := true, since := 0 }, roundPending := false, coarseCount := 0,
    calDefect := false, burst := none, lastAudit := none }

/-- The default transmitted trace of a port (R102). -/
def Trace.default (station : BitVec 4) (p : Fin 8) : Trace :=
  let digit (n : Nat) : BitVec 7 := BitVec.ofNat 7 (0x30 + n)
  #v[0x49, 0x56, 0x45, 0x4E, 0x52, 0x41, 0x31, 0x32, 0x34, 0x30, 0x53,
     digit (station.toNat / 10), digit (station.toNat % 10), 0x50, digit p.val, 0x20]

/-- The Cable Supervisor's state of a port after a cold restart (R102, R126). -/
def Cable.cold (station : BitVec 4) (p : Fin 8) : Cable :=
  { record :=
      { expected := Vector.replicate 16 0x20, check := false, transmitted := Trace.default station p, dmin := 0,
        dmax := 0, ofs := 0, defaultTa := none, burst := 4, period := 0, spreadLimit := 0, dark := false }
    txTrace := Trace.default station p, traceCandidate := none, traceRun := 0, collecting := none, captures := [],
    accepted := none, verdict := .unverified, pendingVerdict := none, pendingEcho := none, awaited := none,
    suspended := false, failures := 0, lastResult := none, timer := none, window := none, lenDelay := 0, echoOut := none,
    markerOut := false }

/-- No audit active: no draw, no marker. -/
def Markers.idle : Markers := { draws := 0, drawn := none, due := 0, drawnIn := 0 }

/-- The Cable Supervisor after a cold restart (R118, R126). -/
def Csv.cold (station : BitVec 4) : Csv :=
  { cables := Vector.ofFn (Cable.cold station), audits := [],
    dither := 0x5A00#16 + station.setWidth 16, markers := .idle, endedAt := 0 }

/-- A candidate after a cold restart (R130, R150). -/
def Cand.cold (k : Fin 10) : Cand :=
  let x : RefEntry := { enabled := false, priority := k.val + 1, fixedSource := decide (8 ≤ k.val), fixedQ := 0 }
  { entry := x, inUse := x
    state := .disabled, holdOff := none, wtr := none, previousR := none, drifts := [], lastR := none, missing := 0,
    good := 0, ref := false, eligible := false, claim := false }

/-- The timing settings after a cold restart (R131). -/
def TimingSettings.cold : TimingSettings :=
  { kp := 3, ki := 7, threshold := 256, worstQ := 9, mode := .auto, holdOff := 5, wtr := 5 }

/-- The Timing Unit after a cold restart (R129, R150); the first local frame start falls at the first clock edge. -/
def Tmu.cold : Tmu :=
  { acc := 0, fw := 0, integral := 0, frameCount := 0, seconds := 0, frameNo := 0, nextStart := 1, started := false,
    cands := Vector.ofFn Cand.cold, settings := .cold, modeInUse := .auto,
    quality := Vector.replicate 8 { candidate := none, run := 0, accepted := none },
    stations := Vector.replicate 2 { los := true, run := 0, divider := 0, counted := 0 },
    state := .freeRun, selected := none, anchor := none, lastError := none, lockCount := 0, unlockCount := 0,
    outQ := Vector.replicate 8 11 }

/-- The default profile's entry for each kind number (R154). -/
def ProfileEntry.cold (kind : Fin 18) : ProfileEntry :=
  if kind.val < 5 then ⟨.auto, .maj⟩                                    -- LOS, LOF, EXC, TIM, LOOP
  else if kind.val = 5 ∨ kind.val = 6 ∨ kind.val = 9 then ⟨.auto, .min⟩ -- DEG, LEN, REF
  else if kind.val = 10 ∨ kind.val = 12 ∨ kind.val = 13 ∨ kind.val = 16 then ⟨.report, .maj⟩ -- PSF, HOLD, FREE, MSTN
  else if kind.val = 17 then ⟨.report, .crit⟩                           -- MLOST
  else ⟨.report, .min⟩                                                  -- SLIP, AUD, UNPROT, CAL, QOVF

/-- An alarm cell in IDLE with its defect absent. -/
def Alarm.quiet : Alarm := { present := false, state := .idle, soak := none, flag := false, held := none, value := none }

/-- The Alarm Unit after its own cold restart, before the owners deliver their presence (R171). -/
def Alu.cold : Alu :=
  { alarms := Vector.replicate 106 .quiet
    profiles := Vector.ofFn fun n => ProfileEntry.cold ⟨n.val % 18, by omega⟩
    assigned := Vector.replicate 19 0, patched := Vector.replicate 8 false,
    relays := { crit := false, maj := false, min := false, aud := false }, pressCount := 0, pressArmed := false }

/-- All news flags clear. -/
def News.clear : News := { newRecord := false, traffic := false, timing := false, measure := false, fault := false }

/-- The Record Queue emptied (R182 steps 1 to 3). -/
def RecordQueue.empty : RecordQueue := { records := [], sequence := 0, lost := 0, news := .clear }

/-- The Management Channel Interface after a cold restart (R198). -/
def Mci.cold (straps : Straps) : Mci :=
  { straps := straps, group := ⟨straps.mg.toNat % 8, by omega⟩, source := none, rx := .hunt, replies := [],
    sending := none, out := (0xFF, 0xFF), badCrc := 0, dropped := 0, foreign := 0, mstn := none, mlost := false,
    pendingRecord := none, pendingNumber := none, restart := none }

/-- The instant of the coming local frame start, not opened. -/
def Instant.closed : Instant := { opened := false, tick := false, done := [] }

/-- Straps all low (log entry 9). -/
def Inputs.strapsLow : Straps := { station := 0, mg := 0, defmap := false }

/-- Inputs with nothing connected (log entry 9). -/
def Inputs.frameNone : FrameInputs :=
  { written := Vector.replicate 8 0, edges := Vector.replicate 2 0,
    pulses := Vector.replicate 2 { clk := 0, tap := 0 }, aco := false,
    slots := Vector.replicate 2 (Vector.replicate 128 idleSlot) }

/-- Every block after a cold restart with the given queue, inputs and signal-detect levels, before any owner has
delivered a presence and before the RESTART record (R171, R198). -/
def State.blank (pending : List Instr) (inputs : Inputs) (sd : Vector Bool 8) : State :=
  { pending := pending, inputs := inputs, moment := .closed, ports := sd.map Port.cold,
    ssw := .cold inputs.straps.defmap, groups := Vector.ofFn (Group.cold inputs.straps), imu := .cold,
    csv := .cold inputs.straps.station, tmu := .cold, alu := .cold, queue := .empty, mci := .cold inputs.straps }

/-- An alarm cell whose defect the owner delivered present at the cold restart (R156, R160, R171). -/
def Alarm.fresh (flag : Bool) : Alarm := { Alarm.quiet with present := true, state := .raising, soak := some 0, flag := flag }

/-- The alarm cells right after reset, with every signal-detect input low (R171): LOS and LOF of each port, LOS of
both station inputs, and FREE of the unit. -/
def State.resetAlarm (n : Fin 106) : Alarm :=
  if n.val < 80 then (if n.val % 10 < 2 then .fresh true else .quiet)
  else if n.val = 96 ∨ n.val = 98 then .fresh true
  else if n.val = 101 then .fresh false
  else .quiet

/-- The part right after reset: a cold restart with the straps low and every signal-detect input low (log entry 9),
the owners' presence delivered (R171), and the RESTART record queued (R182). -/
def State.reset : State :=
  let s := State.blank [] { straps := Inputs.strapsLow, frame := Inputs.frameNone } (Vector.replicate 8 false)
  { s with
    alu := { s.alu with alarms := Vector.ofFn State.resetAlarm }
    queue :=
      { records := [{ sequence := 0, seconds := 0, frame := 0, report := .restart .cold }], sequence := 1, lost := 0,
        news := { News.clear with newRecord := true } } }

end Sys2Proof.Machine
end

