-- ==== Sys2Proof/Machine/Ops.lean ====
section
/-! DEFINITION. The named operations over the state that several blocks share: access to the tables, the stamp of a
record, the instant of a local frame start, and small arithmetic helpers. -/

namespace Sys2Proof

/-! ## Alarm cells (R152) -/

/-- The number of a port's kind among its ten (R152). -/
def PortKind.place (k : PortKind) : Fin 10 :=
  match k with
  | .los => 0
  | .lof => 1
  | .exc => 2
  | .tim => 3
  | .loop => 4
  | .deg => 5
  | .len => 6
  | .slip => 7
  | .aud => 8
  | .ref => 9

/-- The port kind with a given number (8.1). -/
def portKindOf (n : Nat) : PortKind :=
  match n with
  | 0 => .los
  | 1 => .lof
  | 2 => .exc
  | 3 => .tim
  | 4 => .loop
  | 5 => .deg
  | 6 => .len
  | 7 => .slip
  | 8 => .aud
  | _ => .ref

/-- The kind number of an alarm cell (8.1). -/
def AlarmId.kind (a : AlarmId) : Fin 18 :=
  match a with
  | .port _ k => ⟨k.place.val, by omega⟩
  | .psf _ => 10
  | .unprot _ => 11
  | .stationLos _ => 0
  | .stationRef _ => 9
  | .hold => 12
  | .free => 13
  | .cal => 14
  | .qovf => 15
  | .mstn => 16
  | .mlost => 17

/-- The source number of an alarm cell (R152). -/
def AlarmId.source (a : AlarmId) : Fin 19 :=
  match a with
  | .port p _ => ⟨p.val, by omega⟩
  | .psf g => ⟨8 + g.val, by omega⟩
  | .unprot g => ⟨8 + g.val, by omega⟩
  | .stationLos i => ⟨16 + i.val, by omega⟩
  | .stationRef i => ⟨16 + i.val, by omega⟩
  | .hold => 18
  | .free => 18
  | .cal => 18
  | .qovf => 18
  | .mstn => 18
  | .mlost => 18

/-- The index of an alarm cell (R152). -/
def AlarmId.index (a : AlarmId) : Fin 106 :=
  match a with
  | .port p k => ⟨10 * p.val + k.place.val, by omega⟩
  | .psf g => ⟨80 + 2 * g.val, by omega⟩
  | .unprot g => ⟨81 + 2 * g.val, by omega⟩
  | .stationLos i => ⟨96 + 2 * i.val, by omega⟩
  | .stationRef i => ⟨97 + 2 * i.val, by omega⟩
  | .hold => 100
  | .free => 101
  | .cal => 102
  | .qovf => 103
  | .mstn => 104
  | .mlost => 105

/-- The alarm cell with a given index (R152). -/
def alarmOf (n : Fin 106) : AlarmId :=
  if n.val < 80 then .port ⟨n.val / 10 % 8, by omega⟩ (portKindOf (n.val % 10))
  else if n.val < 96 then
    (if n.val % 2 = 0 then .psf ⟨(n.val - 80) / 2 % 8, by omega⟩ else .unprot ⟨(n.val - 80) / 2 % 8, by omega⟩)
  else if n.val < 100 then
    (if n.val % 2 = 0 then .stationLos ⟨(n.val - 96) / 2 % 2, by omega⟩ else .stationRef ⟨(n.val - 96) / 2 % 2, by omega⟩)
  else if n.val = 100 then .hold
  else if n.val = 101 then .free
  else if n.val = 102 then .cal
  else if n.val = 103 then .qovf
  else if n.val = 104 then .mstn
  else .mlost

end Sys2Proof

namespace Sys2Proof.Machine

open Sys2Proof

/-! ## Loops and conditional steps -/

/-- `f` for each index in rising order. -/
def overAll {n : Nat} (f : Fin n → State → State) (s : State) : State :=
  (List.finRange n).foldl (fun t i => f i t) s

/-- The step `f`, taken only if its outcome is the one `p` asks for; otherwise the row finds nothing to do
(log entry 3). -/
def ifOutcome (p : State → State → Bool) (f : State → State) (s : State) : State :=
  let t := f s
  if p s t then t else s

/-- The first of the steps whose outcome is the one `p` asks for (log entry 3). -/
def firstOutcome (p : State → State → Bool) (fs : List (State → State)) (s : State) : State :=
  match fs with
  | [] => s
  | f :: rest =>
    let t := f s
    if p s t then t else firstOutcome p rest s

/-- The instant with the judgement `j` made. -/
def Instant.made (j : Judgement) (x : Instant) : Instant := { x with done := j :: x.done }

/-- A judgement of the coming local frame start, made unless a command has taken it ahead (log entry 2). -/
def State.once (j : Judgement) (f : State → State) (s : State) : State :=
  if s.moment.done.contains j then s
  else f { s with moment := s.moment.made j }

/-! ## Access -/

/-- Line port `p`. -/
def State.port (s : State) (p : Fin 8) : Port := s.ports[p]

/-- Line port `p` changed by `f`. -/
def State.modPort (p : Fin 8) (f : Port → Port) (s : State) : State :=
  { s with ports := s.ports.set p (f s.ports[p]) }

/-- Protection group `g`. -/
def State.group (s : State) (g : Fin 8) : Group := s.groups[g]

/-- Protection group `g` changed by `f`. -/
def State.modGroup (g : Fin 8) (f : Group → Group) (s : State) : State :=
  { s with groups := s.groups.set g (f s.groups[g]) }

/-- The Cable Supervisor's state of port `p`. -/
def State.cable (s : State) (p : Fin 8) : Cable := s.csv.cables[p]

/-- The Cable Supervisor's state of port `p` changed by `f`. -/
def State.modCable (p : Fin 8) (f : Cable → Cable) (s : State) : State :=
  { s with csv := { s.csv with cables := s.csv.cables.set p (f s.csv.cables[p]) } }

/-- Candidate `k`. -/
def State.cand (s : State) (k : Fin 10) : Cand := s.tmu.cands[k]

/-- Candidate `k` changed by `f`. -/
def State.modCand (k : Fin 10) (f : Cand → Cand) (s : State) : State :=
  { s with tmu := { s.tmu with cands := s.tmu.cands.set k (f s.tmu.cands[k]) } }

/-- Vernier `v`. -/
def State.vernier (s : State) (v : Fin 4) : Vernier := s.imu.verniers[v]

/-- Vernier `v` changed by `f`. -/
def State.modVernier (v : Fin 4) (f : Vernier → Vernier) (s : State) : State :=
  { s with imu := { s.imu with verniers := s.imu.verniers.set v (f s.imu.verniers[v]) } }

/-- The port of a candidate K0-K7, none for a station input. -/
def candPort (k : Fin 10) : Option (Fin 8) := if h : k.val < 8 then some ⟨k.val, h⟩ else none

/-- The candidate of a line port. -/
def portCand (p : Fin 8) : Fin 10 := ⟨p.val, by omega⟩

/-- The candidate of a station input. -/
def stationCand (i : Fin 2) : Fin 10 := ⟨8 + i.val, by omega⟩

/-! ## Alarm cells -/

/-- All 106 alarm cells in index order. -/
def allAlarms : List AlarmId := (List.finRange 106).map alarmOf

/-- The alarm cell `a`. -/
def State.alarm (s : State) (a : AlarmId) : Alarm := s.alu.alarms[a.index]

/-! ## Counting -/

/-- A count that stays at its upper end (Introduction, Numbers). -/
def bump (n top : Nat) : Nat := if n < top then n + 1 else top

/-- A value taken into a range (Introduction, Numbers). -/
def clampInt (x low high : Int) : Int := if x < low then low else if high < x then high else x

/-- A difference of phases taken into -524,288 … +524,287 by one addition or subtraction of a frame (R136, R147). -/
def wrapPhase (x : Int) : Int :=
  if x < -524288 then x + Config.frameLsb else if 524287 < x then x - Config.frameLsb else x

/-! ## Time -/

/-- The time counter: the low 24 bits of the clock edges since the cold restart (R81). -/
def State.timeCounter (s : State) : BitVec 24 := BitVec.ofNat 24 s.imu.clk

/-- The latest frame mark (R81). -/
def State.frameMark (s : State) : BitVec 24 := BitVec.ofNat 24 s.imu.frameStart

/-- The latest multiframe mark (R81). -/
def State.multiframeMark (s : State) : BitVec 24 := BitVec.ofNat 24 s.imu.multiframeStart

/-- The multiframe index of the running local frame (R129). -/
def State.index (s : State) : BitVec 4 := BitVec.ofNat 4 s.tmu.frameCount

/-- The clock set no earlier than `t`. -/
def State.advanceClock (t : Nat) (s : State) : State :=
  { s with imu := { s.imu with clk := max s.imu.clk t } }

/-! ## Records and news (Section 9) -/

/-- A record put behind the newest, or discarded and counted when the queue holds 64 (R175, R176). QOVF is delivered
by the operation that calls this one. -/
def State.queueRecord (r : Report) (s : State) : State :=
  if s.queue.records.length < Config.queuePlaces then
    { s with queue :=
        { s.queue with
          records := s.queue.records ++
            [{ sequence := s.queue.sequence, seconds := s.tmu.seconds, frame := s.tmu.frameCount, report := r }]
          sequence := (s.queue.sequence + 1) % 65536
          news := { s.queue.news with newRecord := true } } }
  else { s with queue := { s.queue with lost := bump s.queue.lost 65535 } }

/-- The news flags changed by `f` (R179). -/
def State.setNews (f : News → News) (s : State) : State :=
  { s with queue := { s.queue with news := f s.queue.news } }

/-! ## Small changes that other blocks cause -/

/-- The received switch signal of group `g` becomes absent and its filter is emptied (R67). -/
def State.signalAbsent (g : Fin 8) (s : State) : State :=
  s.modGroup g fun x => { x with accepted := none, candidate := none, run := 0 }

/-- R67 for every defined group whose protection member is port `p`. -/
def State.signalLost (p : Fin 8) (s : State) : State :=
  overAll (fun g t =>
    if (t.group g).record.working.isSome && (t.group g).record.protection == some p then t.signalAbsent g else t) s

/-- A partly received management message is discarded (R186); in HUNT nothing changes. -/
def State.discardMessage (s : State) : State := { s with mci := { s.mci with rx := .hunt } }

/-! ## Bytes -/

/-- `n` bytes of a value, high byte first (Section 11). -/
def bytesOf (n v : Nat) : List Byte :=
  match n with
  | 0 => []
  | k + 1 => BitVec.ofNat 8 (v / 256 ^ k) :: bytesOf k v

/-- The value of bytes, high byte first (Section 11). -/
def valueOf (bs : List Byte) : Nat := bs.foldl (fun v b => 256 * v + b.toNat) 0

/-- `n` bytes of a signed value in two's complement (R199). -/
def signedBytes (n : Nat) (v : Int) : List Byte := bytesOf n (v % (256 ^ n : Nat)).toNat

/-- The signed value of bytes in two's complement (R199). -/
def signedOf (bs : List Byte) : Int :=
  let v := valueOf bs
  if 2 * v < 256 ^ bs.length then (v : Int) else (v : Int) - (256 ^ bs.length : Nat)

/-- An optional value in `n` bytes, all ones when absent (R199). -/
def optBytes (n : Nat) (v : Option Nat) : List Byte :=
  match v with
  | some x => bytesOf n x
  | none => List.replicate n 0xFF

/-- An optional signed value in `n` bytes, the most negative value when absent (R199). -/
def optSigned (n : Nat) (v : Option Int) : List Byte :=
  match v with
  | some x => signedBytes n x
  | none => 0x80#8 :: List.replicate (n - 1) 0

/-- A flag as a bit. -/
def bit (b : Bool) : Nat := if b then 1 else 0

/-- A byte whose bits from 0 upward are the given flags. -/
def flagByte (bs : List Bool) : Byte := BitVec.ofNat 8 (bs.foldr (fun b v => bit b + 2 * v) 0)

/-- The exclusive-or of the 36 bytes of a slot. -/
def slotParity (w : Slot) : Byte :=
  (List.range 36).foldl (fun acc i => acc ^^^ (w >>> (8 * i)).setWidth 8) 0

/-- The bit-interleaved parity of a frame: the exclusive-or of its 1,456 bytes (1.1, R8, R18). -/
def frameParity (f : LineFrame) : Byte :=
  f.payload.toList.foldl (fun acc w => acc ^^^ slotParity w) (f.overhead.toList.foldl (· ^^^ ·) 0)

end Sys2Proof.Machine
end

