-- ==== Sys2Proof/Machine/Flags.lean ====
section
/-! DEFINITION. The conditions and outputs that the rules compute from the state: profile in use, SF and SD, requests
and their priorities, audit state, candidate conditions, ATTN, relay contributions. Nothing here changes the state. -/

namespace Sys2Proof.Machine

open Sys2Proof

/-! ## Alarm Unit -/

/-- The entry of the fixed PATCH profile (R167). -/
def patchEntry : ProfileEntry := { mode := .report, severity := .note }

/-- Whether the PATCH profile is in use on a source (R155): the sources 0 to 7 are the line ports. -/
def State.sourcePatched (s : State) (source : Fin 19) : Bool :=
  if h : source.val < 8 then s.alu.patched[source.val] else false

/-- The entry of profile `p` for kind number `k` (R154). -/
def State.profileEntry (s : State) (p : Fin 4) (k : Fin 18) : ProfileEntry :=
  s.alu.profiles[18 * p.val + k.val]'(by omega)

/-- Mode and severity of an alarm cell, from the profile in use of its source (R155). -/
def State.entryOf (s : State) (a : AlarmId) : ProfileEntry :=
  if s.sourcePatched a.source then patchEntry else s.profileEntry s.alu.assigned[a.source] a.kind

/-- CRIT and MAJ sound the AUD relay (R169). -/
def Severity.serious (v : Severity) : Bool :=
  match v with
  | .crit => true
  | .maj => true
  | .min => false
  | .note => false

/-- Whether an alarm cell counts toward the output of severity `v` (R168). -/
def State.countsToward (s : State) (v : Severity) (a : AlarmId) : Bool :=
  match (s.alarm a).state with
  | .active => (s.entryOf a).severity == v
  | .latched => (s.alarm a).held == some v
  | .idle => false
  | .raising => false
  | .clearing => false

/-- Whether the output of severity `v` is energized (R168). -/
def State.relayOf (s : State) (v : Severity) : Bool := allAlarms.any (s.countsToward v)

/-- The action flag of an alarm cell (R160). -/
def State.flagOf (s : State) (a : AlarmId) : Bool := (s.alarm a).flag

/-! ## Line ports -/

/-- "In SYNC" (1.2). -/
def State.inSync (s : State) (p : Fin 8) : Bool := (s.port p).align == .sync

/-- The transmit-disable output of a port (R19). -/
def State.txDisable (s : State) (p : Fin 8) : Bool :=
  !(s.port p).settings.txEnabled || ((s.cable p).window.isSome && (s.cable p).record.dark)

/-! ## Protection groups -/

/-- The kinds that make SF (R47). -/
def sfKinds : List PortKind := [.los, .lof, .exc, .tim, .loop]

/-- SF of the member on port `p` (R47). -/
def State.sf (s : State) (p : Fin 8) : Bool := sfKinds.any fun k => s.flagOf (.port p k)

/-- SD of the member of group `g` on port `p` (R47). -/
def State.sd (s : State) (g : Fin 8) (p : Fin 8) : Bool :=
  (s.group g).record.degrade && (s.flagOf (.port p .deg) || s.flagOf (.port p .len))

/-- A group whose working port is present (R41). -/
def Group.defined (x : Group) : Bool := x.record.working.isSome

/-- A defined group with a protection member (R41). -/
def Group.protected (x : Group) : Bool := x.record.working.isSome && x.record.protection.isSome

/-- The port of a member of a group; an undefined group has no members (R41). -/
def Group.portOf (x : Group) (m : Member) : Option (Fin 8) :=
  match x.record.working with
  | none => none
  | some w =>
    match m with
    | .w => some w
    | .p => x.record.protection

/-- The other member. -/
def otherMember (m : Member) : Member :=
  match m with
  | .w => .p
  | .p => .w

/-- Port `p` is a member of the group (R41). -/
def Group.hasMember (x : Group) (p : Fin 8) : Bool := x.portOf .w == some p || x.portOf .p == some p

/-- The group that port `p` is a member of, and as which member (R41, R43). -/
def State.membership (s : State) (p : Fin 8) : Option (Fin 8 × Member) :=
  (List.finRange 8).findSome? fun g =>
    if (s.group g).portOf .w == some p then some (g, .w)
    else if (s.group g).portOf .p == some p then some (g, .p)
    else none

/-- The ports of the members of a group (R41). -/
def Group.members (x : Group) : List (Fin 8) := (x.portOf .w).toList ++ (x.portOf .p).toList

/-- The code of a local request (R49). -/
def LocalRequest.code (r : LocalRequest) : BitVec 4 :=
  match r with
  | .lock => 15
  | .patchP => 15
  | .failP => 14
  | .force => 13
  | .patchW => 13
  | .failW => 12
  | .degrP => 11
  | .degrW => 10
  | .manP => 8
  | .manW => 7
  | .wait => 6
  | .hold => 4
  | .none => 0

/-- The channel a local request names (R49). -/
def LocalRequest.channel (r : LocalRequest) : Member :=
  match r with
  | .lock => .w
  | .patchP => .w
  | .failP => .w
  | .force => .p
  | .patchW => .p
  | .failW => .p
  | .degrP => .w
  | .degrW => .p
  | .manP => .p
  | .manW => .w
  | .wait => .p
  | .hold => .p
  | .none => .w

/-- The code of a stored operator request (R202), 0 for NONE. -/
def Operator.code (o : Operator) : BitVec 4 :=
  match o with
  | .none => 0
  | .lock => 15
  | .force => 13
  | .manP => 8
  | .manW => 7

/-- The patch request of a group, from its patch marks (R55). -/
def Group.patchRequest (x : Group) : Option LocalRequest :=
  if x.markP then some .patchP else if x.markW then some .patchW else none

/-- The code of the patch request, 0 for NONE (R204). -/
def Group.patchCode (x : Group) : BitVec 4 :=
  match x.patchRequest with
  | some r => r.code
  | none => 0

/-- LOCK or PATCH-P is in effect at this end (R60, R63, R73). -/
def Group.locked (x : Group) : Bool := x.operator == .lock || x.patchRequest == some .patchP

/-- The active requests (codes 7 to 15) and when each is in effect, highest first (R49). -/
def Group.activeRequests (x : Group) : List (LocalRequest × Bool) :=
  [(.lock, x.operator == .lock), (.patchP, x.patchRequest == some .patchP), (.failP, x.sfP.after),
   (.force, x.operator == .force), (.patchW, x.patchRequest == some .patchW), (.failW, x.sfW.after),
   (.degrP, x.sdP.after), (.degrW, x.sdW.after), (.manP, x.operator == .manP), (.manW, x.operator == .manW)]

/-- The highest active request of a group (R49); a group with no protection member has none. -/
def Group.highestActive (x : Group) : Option LocalRequest :=
  if x.protected then (x.activeRequests.find? fun r => r.2).map Prod.fst else none

/-- The priority of a received request: its code where R49 lists it, else 0; REV counts as 0 (R68, R70). -/
def receivedPriority (code : BitVec 4) : Nat :=
  if ([15, 14, 13, 12, 11, 10, 8, 7, 6, 4] : List (BitVec 4)).contains code then code.toNat else 0

/-- The priority of the accepted received request where a BOTH-ENDS group weighs it, else 0 (R53); a code that R49 does
not list counts as 0 against MAN-P and MAN-W too (DESIGN CHOICE, log entry 36). -/
def Group.receivedWeight (x : Group) : Nat :=
  match x.record.direction, x.accepted with
  | .bothEnds, some r => receivedPriority r.request
  | _, _ => 0

/-! ## Interval Measurement Unit -/

/-- A vernier is usable when it is FREE with a CAL in force (R83). -/
def Vernier.usable (v : Vernier) : Bool := v.state == .free && v.cal.isSome

/-- V0 is reserved while a reference is selected (R89). -/
def State.reserved (s : State) : Bool := s.tmu.selected.isSome

/-! ## Cable Supervisor -/

/-- The audit states (6.5). -/
inductive AuditState where
  | idle | queued | active | suspended
  deriving DecidableEq, Repr

/-- The active audit is on port `p` (R93, R115). -/
def State.auditActive (s : State) (p : Fin 8) : Bool :=
  match s.imu.burst with
  | some b => b.port == p
  | none => false

/-- The audit state of a port (6.5). -/
def State.auditState (s : State) (p : Fin 8) : AuditState :=
  if (s.cable p).suspended then .suspended
  else if s.auditActive p then .active
  else if s.csv.audits.any (fun e => e.port == p) then .queued
  else .idle

/-! ## Timing Unit -/

/-- The effective Q of a candidate (R133), by its entry as of the last local frame start (R130); UNKNOWN is code 0. -/
def State.effectiveQ (s : State) (k : Fin 10) : BitVec 4 :=
  if (s.cand k).inUse.fixedSource then (s.cand k).inUse.fixedQ
  else
    match candPort k with
    | some p => (s.tmu.quality[p]).accepted.getD 0
    | none => (s.cand k).inUse.fixedQ

/-- The rank of a quality level: the code, except that UNKNOWN ranks as 14; lower is better (R133). -/
def rankQ (q : BitVec 4) : Nat := if q = 0 then 14 else q.toNat

/-- A received quality code; one that the Introduction does not list is UNKNOWN (R133). -/
def knownQ (q : BitVec 4) : BitVec 4 :=
  if ([1, 3, 5, 9, 11, 15, 0] : List (BitVec 4)).contains q then q else 0

/-- The verdicts that are a verdict cause (R138). -/
def Verdict.bars (v : Verdict) : Bool :=
  match v with
  | .misconnected => true
  | .looped => true
  | .patching => true
  | .unverified => false
  | .traceOk => false
  | .verified => false
  | .length => false

/-- The verdict cause of a candidate (R138). -/
def State.verdictCause (s : State) (k : Fin 10) : Bool :=
  match candPort k with
  | some p => (s.cable p).verdict.bars
  | none => false

/-- The alarm cell of the REF defect of a candidate (R137). -/
def refAlarm (k : Fin 10) : AlarmId :=
  if h : k.val < 8 then .port ⟨k.val, h⟩ .ref else .stationRef ⟨(k.val - 8) % 2, by omega⟩

/-- The flag condition of a candidate (R138). -/
def State.flagCondition (s : State) (k : Fin 10) : Bool :=
  if h : k.val < 8 then
    ([.los, .lof, .exc, .ref] : List PortKind).any fun c => s.flagOf (.port ⟨k.val, h⟩ c)
  else s.flagOf (.stationLos ⟨(k.val - 8) % 2, by omega⟩) || s.flagOf (.stationRef ⟨(k.val - 8) % 2, by omega⟩)

/-- Candidate `a` is better than `b` in the order of R140, by priorities and sources as of the last local frame start
(R130); a received Q counts as it stands, also between local frame starts (DESIGN CHOICE, log entry 38). -/
def State.betterCand (s : State) (a b : Fin 10) : Bool :=
  let ra := rankQ (s.effectiveQ a)
  let rb := rankQ (s.effectiveQ b)
  let pa := (s.cand a).inUse.priority
  let pb := (s.cand b).inUse.priority
  decide (ra < rb) || (ra == rb && (decide (pa < pb) || (pa == pb && decide (a.val < b.val))))

/-- The best eligible candidate (R140, R141). -/
def State.bestEligible (s : State) : Option (Fin 10) :=
  (List.finRange 10).foldl (fun best k =>
    if (s.cand k).eligible then
      match best with
      | none => some k
      | some b => if s.betterCand k b then some k else best
    else best) none

/-- The drift estimate (R136): the sum of 8 drift values over 8, truncated toward zero. -/
def Cand.estimate (c : Cand) : Option Int :=
  if c.drifts.length = 8 then some (c.drifts.sum.tdiv 8) else none

/-! ## Record Queue and management channel -/

/-- At least one news flag is set. -/
def News.any (n : News) : Bool := n.newRecord || n.traffic || n.timing || n.measure || n.fault

/-- The ATTN flag (R181). -/
def State.attn (s : State) : Bool := !s.queue.records.isEmpty || s.queue.news.any

/-- QOVF is present while the lost count is above 0 (R176). -/
def State.qovf (s : State) : Bool := decide (0 < s.queue.lost)

/-- The summary byte (R181, R202). -/
def State.summary (s : State) : Byte :=
  let n := s.queue.news
  flagByte [n.newRecord, n.traffic, n.timing, n.measure, n.fault, !s.queue.records.isEmpty, s.qovf]

/-- The management group (R183). -/
def State.managementGroup (s : State) : Group := s.group s.mci.group

/-- A change of the management group is pending (R195). -/
def State.changePending (s : State) : Bool := s.mci.pendingRecord.isSome || s.mci.pendingNumber.isSome

/-- A member on port `p` is failed for management (R189). -/
def State.failedForManagement (s : State) (p : Fin 8) : Bool := !s.inSync p || s.sf p

/-- MLOST as R189 judges it. -/
def State.channelLost (s : State) : Bool :=
  !s.managementGroup.defined || s.managementGroup.members.all s.failedForManagement

end Sys2Proof.Machine
end

