-- ==== Sys2Proof/Machine/Alarm.lean ====
section
/-! DEFINITION. The Alarm Unit and the Record Queue (Sections 8 and 9): delivery of a presence, soaks, action flags,
records, CLEAR, changes of profile, relays and cut-off. -/

namespace Sys2Proof.Machine

open Sys2Proof

/-! ## Relays (R168, R169) -/

/-- CRIT, MAJ and MIN judged again (R168). -/
def State.judgeRelays (s : State) : State :=
  { s with alu := { s.alu with relays :=
      { s.alu.relays with crit := s.relayOf .crit, maj := s.relayOf .maj, min := s.relayOf .min } } }

/-- A soak count written; no state changes, so no relay is judged (R156, R157). -/
def State.putSoak (a : AlarmId) (n : Nat) (s : State) : State :=
  { s with alu := { s.alu with alarms := s.alu.alarms.set a.index { s.alarm a with soak := some n } } }

/-- An alarm cell written, with the relays judged again (R168). -/
def State.putAlarm (a : AlarmId) (x : Alarm) (s : State) : State :=
  State.judgeRelays { s with alu := { s.alu with alarms := s.alu.alarms.set a.index x } }

/-- AUD after a cell of severity `v` has entered ACTIVE (R169). -/
def State.soundBell (v : Severity) (s : State) : State :=
  if v.serious then { s with alu := { s.alu with relays := { s.alu.relays with aud := true } } } else s

/-- An alarm cut-off (R169). -/
def State.cutOff (s : State) : State :=
  { s with alu := { s.alu with relays := { s.alu.relays with aud := false } } }

/-! ## Arrival of a presence (R153, R156 to R160) -/

/-- The action flag after a delivery (R160). -/
def flagAfter (mode : Mode) (present flag : Bool) : Bool :=
  match mode with
  | .auto => present
  | .latch => flag || present
  | .report => false
  | .off => false

/-- The state of a cell after a delivery of presence in a mode other than OFF (R156 to R158), and in OFF (R159). -/
def Alarm.arrive (mode : Mode) (present : Bool) (x : Alarm) : Alarm :=
  let y := { x with present := present, flag := flagAfter mode present x.flag }
  match mode, x.state, present with
  | .off, _, _ => y
  | _, .idle, true => { y with state := .raising, soak := some 0 }
  | _, .clearing, true => { y with state := .active, soak := none }
  | _, .latched, true => { y with state := .active, soak := none, held := none }
  | _, .raising, false => { y with state := .idle, soak := none }
  | _, .active, false => { y with state := .clearing, soak := some 0 }
  | _, _, _ => y

/-- A flag of a port that makes SF, newly set, ends the received switch signal read on that port (R67). -/
def State.flagSetHook (a : AlarmId) (before after : Bool) (s : State) : State :=
  match a with
  | .port p k => if after && !before && sfKinds.contains k then s.signalLost p else s
  | _ => s

/-- Delivery of a change of presence (R153); `push` hands a record to the queue. -/
def State.deliverWith (push : Report → State → State) (a : AlarmId) (present : Bool) (value : Option Nat)
    (s : State) : State :=
  let x := s.alarm a
  if x.present = present then s
  else
    let e := s.entryOf a
    let y := ({ x with value := value.or x.value } : Alarm).arrive e.mode present
    let s := (s.putAlarm a y).flagSetHook a x.flag y.flag
    let s := if y.state == .active && x.state != .active then s.soundBell e.severity else s
    if x.state == .latched && y.state == .active then push (.alarm a .raised e.severity y.value) s else s

/-- A record handed to the queue (R175), with the delivery of QOVF when the first record is discarded (R176). -/
def State.push (r : Report) (s : State) : State :=
  let t := s.queueRecord r
  if s.queue.lost = 0 ∧ t.queue.lost = 1 then t.deliverWith State.queueRecord .qovf true none else t

/-- Delivery of a change of presence with its value, if it has one (R153). -/
def State.deliverValue (a : AlarmId) (present : Bool) (value : Option Nat) (s : State) : State :=
  s.deliverWith State.push a present value

/-- Delivery of a change of presence (R153). -/
def State.deliver (a : AlarmId) (present : Bool) (s : State) : State := s.deliverValue a present none

/-! ## Soaks (R156, R157) -/

/-- The raise soak of one cell at a local frame start (R156). -/
def State.raiseSoakStep (a : AlarmId) (s : State) : State :=
  let x := s.alarm a
  if x.state == .raising then
    let n := x.soak.getD 0 + 1
    if Config.raiseSoak ≤ n then
      let e := s.entryOf a
      ((s.putAlarm a { x with state := .active, soak := none }).soundBell e.severity).push
        (.alarm a .raised e.severity x.value)
    else s.putSoak a n
  else s

/-- The clear soak of one cell at a one-second tick (R157). -/
def State.clearSoakStep (a : AlarmId) (s : State) : State :=
  let x := s.alarm a
  if x.state == .clearing then
    let n := x.soak.getD 0 + 1
    if Config.clearSoak ≤ n then
      let e := s.entryOf a
      if e.mode == .latch && x.flag then
        (s.putAlarm a { x with state := .latched, soak := none, held := some e.severity }).push
          (.alarm a .held e.severity x.value)
      else (s.putAlarm a { x with state := .idle, soak := none, held := none }).push
          (.alarm a .cleared e.severity x.value)
    else s.putSoak a n
  else s

/-- `f` for every alarm cell in index order. -/
def overAlarms (f : AlarmId → State → State) (s : State) : State := allAlarms.foldl (fun t a => f a t) s

/-! ## CLEAR (R164) -/

/-- CLEAR of one covered cell (R164). -/
def State.clearAlarm (a : AlarmId) (s : State) : State :=
  let x := s.alarm a
  if x.present then s
  else if x.state == .latched then
    (s.putAlarm a { x with state := .idle, held := none, flag := false }).push
      (.alarm a .released (x.held.getD (s.entryOf a).severity) x.value)
  else if (s.entryOf a).mode == .latch && x.flag then s.putAlarm a { x with flag := false }
  else s

/-! ## Changes of profile (R166) -/

/-- The action flag after a change of mode (R166). -/
def flagAfterMode (old new : Mode) (present flag : Bool) : Bool :=
  if old = new then flag
  else
    match new with
    | .auto => present
    | .latch => present
    | .report => false
    | .off => false

/-- The cell after a change of mode (R166). -/
def Alarm.remode (old new : Mode) (x : Alarm) : Alarm :=
  let y := { x with flag := flagAfterMode old new x.present x.flag }
  if old = new then x
  else if new = .off then { y with state := .idle, soak := none, held := none }
  else if old = .off then
    (if x.present then { y with state := .raising, soak := some 0 } else { y with state := .idle, soak := none })
  else if old = .latch ∧ x.state = .latched then { y with state := .idle, soak := none, held := none }
  else y

/-- The record of a change of mode, if the cell writes one (R162, R166). -/
def Alarm.remodeRecord (a : AlarmId) (old : ProfileEntry) (new : Mode) (x : Alarm) : Option Report :=
  if old.mode = new then none
  else if new = .off then
    match x.state with
    | .active => some (.alarm a .cleared old.severity x.value)
    | .clearing => some (.alarm a .cleared old.severity x.value)
    | .latched => some (.alarm a .cleared (x.held.getD old.severity) x.value)
    | .idle => none
    | .raising => none
  else if old.mode = .latch ∧ x.state = .latched then
    some (.alarm a .cleared (x.held.getD old.severity) x.value)
  else none

/-- A cell re-evaluated after the change of its profile entry from `old` (R166). -/
def State.reevaluate (a : AlarmId) (old : ProfileEntry) (s : State) : State :=
  let new := s.entryOf a
  if old = new then s
  else
    let x := s.alarm a
    let y := x.remode old.mode new.mode
    let s := (s.putAlarm a y).flagSetHook a x.flag y.flag
    match x.remodeRecord a old new.mode with
    | some r => s.push r
    | none => s

/-- A change `f` of the profiles in use, with every cell whose mode or severity it changes re-evaluated (R166). -/
def State.reprofile (f : State → State) (s : State) : State :=
  (allAlarms.map fun a => (a, s.entryOf a)).foldl (fun t c => t.reevaluate c.1 c.2) (f s).judgeRelays

/-! ## ACO push-button (R169) -/

/-- The ACO input judged at a local frame start (R169). -/
def State.pressStep (s : State) : State :=
  if s.inputs.frame.aco then
    let n := s.alu.pressCount + 1
    let t := { s with alu := { s.alu with pressCount := n } }
    if n = 8 ∧ s.alu.pressArmed then
      State.cutOff { t with alu := { t.alu with pressArmed := false } }
    else t
  else { s with alu := { s.alu with pressCount := 0, pressArmed := true } }

/-! ## Warm restart (R172, R182) -/

/-- One cell at a warm restart (R172). -/
def Alarm.warm (mode : Mode) (x : Alarm) : Alarm :=
  let y := { x with state := .idle, soak := none, held := none, flag := false }
  if x.present then
    match mode with
    | .off => y
    | .report => { y with state := .raising, soak := some 0 }
    | .auto => { y with state := .raising, soak := some 0, flag := true }
    | .latch => { y with state := .raising, soak := some 0, flag := true }
  else y

/-- The Alarm Unit's warm restart (R172). -/
def State.warmAlarms (s : State) : State :=
  let t := overAlarms (fun a t => t.putAlarm a ((t.alarm a).warm (t.entryOf a).mode)) s
  { t with alu := { t.alu with
      relays := { t.alu.relays with aud := false }
      pressCount := 0
      pressArmed := false } }

/-- The Record Queue at a restart of either kind (R182). -/
def State.restartQueue (kind : RestartKind) (s : State) : State :=
  (({ s with queue := .empty } : State).deliver .qovf false).push (.restart kind)

end Sys2Proof.Machine
end

