-- ==== Sys2Proof/Machine/Timing.lean ====
section
/-! DEFINITION. The Timing Unit (Section 7): quality filters, candidate monitoring and states, selection, the timing
states, the tracking loop and the output quality. -/

namespace Sys2Proof.Machine

open Sys2Proof

/-! ## Timing states and selection (7.6) -/

/-- The unit in timing state `st` with reference `ref` and its other values changed by `f`; a change of state or of
reference writes REFSEL, sets TIMING and delivers HOLD and FREE (R146), so the REFSEL record comes before a RAISED record
of either cell (DESIGN CHOICE, log entry 44). -/
def State.retime (st : TimingState) (ref : Option (Fin 10)) (f : Tmu → Tmu) (s : State) : State :=
  let t : State := { s with tmu := { f s.tmu with state := st, selected := ref } }
  if s.tmu.state = st ∧ s.tmu.selected = ref then t
  else
    (((t.push (.refsel st ref)).setNews fun n => { n with timing := true }).deliver .hold (st == .holdover)).deliver
      .free (st == .freeRun)

/-- The loop without an anchor: FW at I, counts at 0 (R143, R145). -/
def Tmu.unanchored (t : Tmu) : Tmu :=
  { t with fw := t.integral, anchor := none, lastError := none, lockCount := 0, unlockCount := 0 }

/-- Candidate `k` becomes the selected reference (R143), if it is not already. -/
def State.selectRef (k : Fin 10) (s : State) : State :=
  if s.tmu.selected = some k then s else s.retime .acquire (some k) Tmu.unanchored

/-- HOLDOVER is entered (R145); in HOLDOVER nothing changes. -/
def State.toHoldover (s : State) : State :=
  if s.tmu.state = .holdover then s else s.retime .holdover none Tmu.unanchored

/-- FREE-RUN, with FW and I at 0 (R142, R145); P0 becomes absent and the lock and unlock counts 0 as well (DESIGN
CHOICE, log entry 38). -/
def State.toFreeRun (s : State) : State :=
  s.retime .freeRun none fun t => { t.unanchored with fw := 0, integral := 0 }

/-- The rule of the mode in use (R141, R142). -/
def State.applyMode (s : State) : State :=
  match s.tmu.modeInUse with
  | .auto =>
    match s.bestEligible with
    | some k => s.selectRef k
    | none => if s.tmu.selected.isSome then s.toHoldover else s
  | .forced k => if (s.cand k).eligible then s.selectRef k else s.toHoldover
  | .free => s.toFreeRun
  | .hold => s.toHoldover

/-- Candidate `k` has left AVAILABLE between local frame starts (R140, R141, R142). -/
def State.candLeft (k : Fin 10) (s : State) : State :=
  let t := s.modCand k fun c => { c with eligible := false }
  if t.tmu.selected = some k ∨ t.tmu.modeInUse = .forced k then t.applyMode else t

/-! ## Candidate states (7.5) -/

/-- A WAIT or AVAILABLE candidate becomes FAILED at this moment (R138). -/
def State.failCand (k : Fin 10) (s : State) : State :=
  match (s.cand k).state with
  | .available => (s.modCand k fun c => { c with state := .failed, wtr := none }).candLeft k
  | .wait => s.modCand k fun c => { c with state := .failed, wtr := none }
  | .failed => s
  | .disabled => s

/-- A candidate enters WAIT with its WTR count at 0, or AVAILABLE if the reference WTR is 0 (R139). -/
def State.enterWait (k : Fin 10) (s : State) : State :=
  if s.tmu.settings.wtr = 0 then s.modCand k fun c => { c with state := .available, wtr := none }
  else s.modCand k fun c => { c with state := .wait, wtr := some 0 }

/-- A verdict change of port `p`, delivered to the candidate of the port; `barred` says that the verdict before was a
verdict cause, which the change may remove (R109, R138, R139). -/
def State.verdictToTiming (p : Fin 8) (barred : Bool) (s : State) : State :=
  let k := portCand p
  if (s.cand k).entry.enabled then
    if s.verdictCause k then s.failCand k
    else if barred ∧ (s.cand k).state = .failed ∧ s.flagCondition k = false then s.enterWait k
    else s
  else s

/-- Candidate `k` at a local frame start (R138, R139). -/
def State.candStep (k : Fin 10) (s : State) : State :=
  if (s.cand k).entry.enabled then
    let limit := Config.framesPer100ms * s.tmu.settings.holdOff
    let n := (s.cand k).holdOff.getD 0
    if s.flagCondition k then
      let m := if n < limit then n + 1 else n
      let s := s.modCand k fun c => { c with holdOff := some m }
      let held := decide (limit ≤ m) || s.verdictCause k
      match (s.cand k).state with
      | .wait =>
        if held then s.modCand k fun c => { c with state := .failed, wtr := none }
        else s.modCand k fun c => { c with wtr := some 0 }
      | .available => if held then s.modCand k fun c => { c with state := .failed, wtr := none } else s
      | .failed => s
      | .disabled => s
    else
      let s := s.modCand k fun c => { c with holdOff := some 0 }
      match (s.cand k).state with
      | .failed => if s.verdictCause k then s else s.enterWait k
      | .wait => if s.verdictCause k then s.modCand k fun c => { c with state := .failed, wtr := none } else s
      | .available => if s.verdictCause k then s.modCand k fun c => { c with state := .failed, wtr := none } else s
      | .disabled => s
  else s

/-- Candidate `k` at a one-second tick: a set flag condition has the WTR count at 0, and else it rises; either is
compared with the reference WTR, lowered or not (R131, R139). -/
def State.candTick (k : Fin 10) (s : State) : State :=
  match (s.cand k).state with
  | .wait =>
    let n := if s.flagCondition k then 0 else (s.cand k).wtr.getD 0 + 1
    if 60 * s.tmu.settings.wtr ≤ n then s.modCand k fun c => { c with state := .available, wtr := none }
    else s.modCand k fun c => { c with wtr := some n }
  | .available => s
  | .failed => s
  | .disabled => s

/-- Candidate `k` at a local frame start: its written entry acts from here (R130), and its eligibility is judged
(R140). -/
def State.judgeEligible (k : Fin 10) (s : State) : State :=
  let s := s.modCand k fun c => { c with inUse := c.entry }
  let q := s.effectiveQ k
  let e := (s.cand k).state == .available && decide (rankQ q ≤ rankQ s.tmu.settings.worstQ) && q != 15
  s.modCand k fun c => { c with eligible := e }

/-- Selection at a local frame start (R140 to R142): a written mode acts from here. -/
def State.selection (s : State) : State :=
  let t := overAll State.judgeEligible s
  State.applyMode { t with tmu := { t.tmu with modeInUse := t.tmu.settings.mode } }

/-! ## Tracking loop (7.7) -/

/-- Integral term and frequency word after an error `e` (R148). -/
def loopUpdate (x : TimingSettings) (e integral : Int) : Int × Int :=
  let i := clampInt (integral + e / (2 ^ x.ki : Nat)) (-Config.wordLimit) Config.wordLimit
  (i, clampInt (i + e / (2 ^ x.kp : Nat)) (-Config.wordLimit) Config.wordLimit)

/-- A present sample of the selected reference (R143, R144, R147, R148). -/
def State.loopSample (r : Int) (s : State) : State :=
  let x := s.tmu.settings
  let p0 := s.tmu.anchor.getD r
  let e := wrapPhase (r - p0)
  let iw := loopUpdate x e s.tmu.integral
  let s : State :=
    { s with tmu := { s.tmu with anchor := some p0, lastError := some e, integral := iw.1, fw := iw.2 } }
  match s.tmu.state with
  | .acquire =>
    if e.natAbs ≤ x.threshold then
      if 16 ≤ s.tmu.lockCount + 1 then s.retime .locked s.tmu.selected fun t => { t with lockCount := 0 }
      else { s with tmu := { s.tmu with lockCount := s.tmu.lockCount + 1 } }
    else { s with tmu := { s.tmu with lockCount := 0 } }
  | .locked =>
    if 4 * x.threshold < e.natAbs then
      if 4 ≤ s.tmu.unlockCount + 1 then s.retime .acquire s.tmu.selected fun t => { t with unlockCount := 0 }
      else { s with tmu := { s.tmu with unlockCount := s.tmu.unlockCount + 1 } }
    else { s with tmu := { s.tmu with unlockCount := 0 } }
  | .freeRun => s
  | .holdover => s

/-! ## Candidate monitoring (7.4) -/

/-- History and REF counts after a phase sample: `none` is a missing one (R136, R137). -/
def Cand.takeSample (r : Option (Int × Bool)) (c : Cand) : Cand :=
  match r with
  | none =>
    let n := bump c.missing 3
    { c with drifts := [], previousR := none, lastR := none, missing := n, good := 0, ref := c.ref || n == 3 }
  | some (x, coarse) =>
    let drifts :=
      match c.previousR with
      | some y => (c.drifts ++ [wrapPhase (x - y)]).drop (c.drifts.length + 1 - 8)
      | none => c.drifts
    let d := { c with drifts := drifts, previousR := some x, lastR := some (x, coarse), missing := 0 }
    match d.estimate with
    | none => d
    | some est =>
      if Config.driftLimit < est.natAbs then { d with good := 0, ref := true }
      else
        let n := bump c.good 8
        { d with good := n, ref := c.ref && n != 8 }

/-- A phase sample of candidate `k` (R134, R136, R137), and its use by the loop (R143, R144, R148). REF is delivered
before the loop takes the sample, so a RAISED record of REF stands before the REFSEL record of the same sample (DESIGN
CHOICE, R175 leaves the order open; log entry 44). -/
def State.phaseSample (k : Fin 10) (r : Option (Int × Bool)) (s : State) : State :=
  if (s.cand k).entry.enabled then
    let s := s.modCand k fun c => { c.takeSample r with claim := false }
    let s := s.deliver (refAlarm k) (s.cand k).ref
    if s.tmu.selected = some k then
      match r with
      | some x => s.loopSample x.1
      | none => { s with tmu := { s.tmu with lockCount := 0, unlockCount := 0 } }
    else s
  else s

/-- Monitoring of a candidate cleared (R136, R137). -/
def Cand.unmonitored (c : Cand) : Cand :=
  { c with previousR := none, drifts := [], lastR := none, missing := 0, good := 0, ref := false, claim := false }

/-- A conversion no longer claimed for the phase of candidate `k` (R134). -/
def Vernier.unclaimed (k : Fin 10) (v : Vernier) : Vernier :=
  match v.state with
  | .busy c => if c.candidate = some k then { v with state := .busy { c with candidate := none } } else v
  | .free => v
  | .calibrating => v
  | .calFault => v

/-- Candidate `k` is written enabled from disabled (R136, R139). -/
def State.enableCand (k : Fin 10) (s : State) : State :=
  let s := s.modCand k fun c => { c.unmonitored with holdOff := some 0 }
  if s.verdictCause k then s.modCand k fun c => { c with state := .failed, wtr := none } else s.enterWait k

/-- Candidate `k` is written disabled (R134, R136, R137, R139). -/
def State.disableCand (k : Fin 10) (s : State) : State :=
  let was := (s.cand k).state
  let s := s.modCand k fun c =>
    { c.unmonitored with state := .disabled, holdOff := none, wtr := none, eligible := false }
  let s := overAll (fun v t => t.modVernier v (Vernier.unclaimed k)) s
  let s := s.deliver (refAlarm k) false
  if was = .available then s.candLeft k else s

/-! ## Received quality (R133) -/

/-- Quality filter of port `p` changed by `f`. -/
def State.modQuality (p : Fin 8) (f : QualityFilter → QualityFilter) (s : State) : State :=
  { s with tmu := { s.tmu with quality := s.tmu.quality.set p (f s.tmu.quality[p]) } }

/-- A delivered quality code enters the filter (R133). -/
def QualityFilter.take (q : BitVec 4) (x : QualityFilter) : QualityFilter :=
  let n := if x.candidate = some q then bump x.run 8 else 1
  { candidate := some q, run := n, accepted := if n = 8 then some q else x.accepted }

/-- The quality filter emptied, and no accepted Q, when the receiver leaves SYNC (R133). -/
def QualityFilter.empty : QualityFilter := { candidate := none, run := 0, accepted := none }

/-! ## Station inputs (R135) -/

/-- Station input `x` at the end of a local frame that held `n` rising edges, of which some are counted (R135). -/
def StationInput.frameEnd (n : Nat) (x : StationInput) : StationInput :=
  let total := max n x.counted
  let run := if total < 128 then 0 else bump x.run 8
  { los := if total < 128 then true else x.los && run != 8, run := run,
    divider := (x.divider + (total - x.counted)) % 256, counted := 0 }

/-- `n` more edges counted, the last of which is the 256th: the divider gives its pulse edge (R135). -/
def StationInput.pulse (n : Nat) (x : StationInput) : StationInput :=
  { x with divider := 0, counted := x.counted + n }

/-- Station input `i` changed by `f`. -/
def State.modStation (i : Fin 2) (f : StationInput → StationInput) (s : State) : State :=
  { s with tmu := { s.tmu with stations := s.tmu.stations.set i (f s.tmu.stations[i]) } }

/-- Station input `i` at a local frame start, for the rising edges in the local frame just ended (R135). -/
def State.stationStep (i : Fin 2) (s : State) : State :=
  let t := s.modStation i (StationInput.frameEnd s.inputs.frame.edges[i])
  t.deliver (.stationLos i) (t.tmu.stations[i]).los

/-! ## Output quality (R149) -/

/-- The output Q without the exception of R149. -/
def State.baseQ (s : State) : BitVec 4 :=
  match s.tmu.state, s.tmu.selected with
  | .holdover, _ => 9
  | .freeRun, _ => 11
  | _, some k => s.effectiveQ k
  | _, none => 11

/-- Port `p` is the selected reference's port, or a member of the group that port is a member of (R149). -/
def State.sharesReference (s : State) (p : Fin 8) : Bool :=
  match s.tmu.selected.bind candPort with
  | none => false
  | some r =>
    match s.membership r with
    | none => r == p
    | some (g, _) => (s.group g).hasMember p

/-- The output Q given to every port at a local frame start (R149). -/
def State.outputQuality (s : State) : State :=
  { s with tmu := { s.tmu with outQ := Vector.ofFn fun p => if s.sharesReference p then 15 else s.baseQ } }

end Sys2Proof.Machine
end

