-- ==== Sys2Proof/Machine/Measurement.lean ====
section
/-! DEFINITION. Stamp and interval arithmetic, delay samples and burst reduction (Sections 5.5 to 5.7). -/

namespace Sys2Proof.Machine

open Sys2Proof

/-! ## Stamps and intervals (R91, R92) -/

/-- The coarse count of a stamp. -/
def Stamp.count (s : Stamp) : BitVec 24 :=
  match s with
  | .exact c => c
  | .fine c _ _ => c
  | .coarse c => c

/-- The fine correction q of a stamp in LSB (R91); a reading above CAL is clamped to it (R84). -/
def Stamp.correction (s : Stamp) : Nat :=
  match s with
  | .exact _ => 0
  | .fine _ f cal => (512 * min f cal + cal) / (2 * cal)
  | .coarse _ => 128

/-- Whether a stamp is marked coarse (R91). -/
def Stamp.isCoarse (s : Stamp) : Bool :=
  match s with
  | .coarse _ => true
  | .exact _ => false
  | .fine _ _ _ => false

/-- The interval from a first stamp to a second, in LSB (R92). -/
def interval (first second : Stamp) : Int :=
  256 * ((second.count - first.count).toNat : Int) - second.correction + first.correction

/-! ## Turnaround (R96, R200) -/

/-- The TA field that is absent: all 24 bits set (R17, R200). -/
def taAbsent : BitVec 24 := 0xFFFFFF#24

/-- The TA field of an echo: its value from the request's arrival to the echo's departure, and the coarse flag in
bit 23 (R96, R200). -/
def turnaround (arrival departure : Stamp) : BitVec 24 :=
  (if arrival.isCoarse then 0x800000#24 else 0#24) ||| (BitVec.ofInt 23 (interval arrival departure)).setWidth 24

/-- The value of a received TA field, absent when all bits are set (R200). -/
def taValue (f : BitVec 24) : Option Nat := if f = taAbsent then none else some (f.setWidth 23).toNat

/-- The coarse flag of a received TA field (R200). -/
def taCoarse (f : BitVec 24) : Bool := f != taAbsent && f.getLsbD 23

/-! ## Delay samples (R94, R95) -/

/-- The sample of an echo, from its round trip, its turnaround and the offset (R95). -/
def delaySample (rt ta ofs : Int) (coarse assumed : Bool) : Sample :=
  let x := rt - ta - ofs
  if 0 ≤ x then
    { rt := rt, ta := ta, delay := min ((x + 1) / 2).toNat 1048575, coarse := coarse, assumed := assumed,
      implausible := false }
  else { rt := rt, ta := ta, delay := 0, coarse := coarse, assumed := assumed, implausible := true }

/-- What an outstanding slot becomes when its echo's arrival stamp and TA field are reported (R94). -/
def resolveEcho (b : Burst) (departure arrival : Stamp) (ta : BitVec 24) : SampleSlot :=
  let rt := interval departure arrival
  match taValue ta, b.defaultTa with
  | some v, _ => .present (delaySample rt v b.ofs (arrival.isCoarse || taCoarse ta) false)
  | none, some v => .present (delaySample rt v b.ofs arrival.isCoarse true)
  | none, none => .missing

/-- The slot is pending. -/
def SampleSlot.isPending (x : SampleSlot) : Bool :=
  match x with
  | .pending => true
  | .outstanding _ _ _ => false
  | .present _ => false
  | .missing => false

/-- The slot is outstanding (R93). -/
def SampleSlot.isOutstanding (x : SampleSlot) : Bool :=
  match x with
  | .pending => false
  | .outstanding _ _ _ => true
  | .present _ => false
  | .missing => false

/-- Every slot of the burst record is resolved. -/
def Burst.resolved (b : Burst) : Bool := b.slots.all fun x => !x.isPending && !x.isOutstanding

/-- A slot of the burst record is outstanding. -/
def Burst.waiting (b : Burst) : Bool := b.slots.any SampleSlot.isOutstanding

/-- The outstanding slot changed by `f`. -/
def Burst.onOutstanding (f : SampleSlot → SampleSlot) (b : Burst) : Burst :=
  { b with slots := b.slots.map fun x => if x.isOutstanding then f x else x }

/-- A departure stored in the first pending slot (R93); a slot still outstanding becomes missing first (R94). -/
def Burst.depart (stamp : Stamp) (frame : Nat) (b : Burst) : Burst :=
  let slots := b.slots.map fun x => if x.isOutstanding then .missing else x
  { b with slots :=
      match slots.findIdx? SampleSlot.isPending with
      | some i => slots.set i (.outstanding stamp frame false)
      | none => slots }

/-! ## Burst reduction (R97) -/

/-- The present samples of a burst record. -/
def Burst.samples (b : Burst) : List Sample :=
  b.slots.filterMap fun x =>
    match x with
    | .present d => some d
    | .pending => none
    | .outstanding _ _ _ => none
    | .missing => none

/-- The slots still pending or outstanding counted as missing (R97). -/
def Burst.closed (b : Burst) : Burst :=
  { b with slots := b.slots.map fun x => if x.isPending || x.isOutstanding then .missing else x }

/-- The result of a burst record (R97); a failed audit has its four marks clear (DESIGN CHOICE, log entry 40). -/
def Burst.reduce (b : Burst) : AuditResult :=
  let xs := b.samples
  let n := xs.length
  let total := b.slots.length
  let delays := xs.map Sample.delay
  if 2 * n < total then
    { completed := false, burst := total, present := n, delay := none, spread := none, coarse := false,
      assumed := false, implausible := false, unstable := false }
  else
    let spread := delays.foldl max 0 - delays.foldl min (delays.headD 0)
    { completed := true, burst := total, present := n, delay := some ((2 * delays.sum + n) / (2 * n)),
      spread := some spread, coarse := xs.any Sample.coarse, assumed := xs.any Sample.assumed,
      implausible := xs.any Sample.implausible, unstable := decide (0 < b.spreadLimit ∧ b.spreadLimit < spread) }

/-- A conversion no longer claimed by the active audit (R94, R98). -/
def Vernier.echoDropped (v : Vernier) : Vernier :=
  match v.state with
  | .busy c => { v with state := .busy { c with echo := none } }
  | .free => v
  | .calibrating => v
  | .calFault => v

/-- No burst record is held, and no echo still being converted can reach a later one (R97, R98). -/
def State.dropBurst (s : State) : State :=
  { s with imu := { s.imu with burst := none, verniers := s.imu.verniers.map Vernier.echoDropped } }

/-- The active audit's burst record closed and reduced: the last ad-hoc audit is replaced if it was ad-hoc, with the
MEASURE news flag (R97, R99). -/
def State.closeBurst (b : Burst) (s : State) : State :=
  let t := s.dropBurst
  if b.adHoc then
    State.setNews (fun n => { n with measure := true })
      { t with imu := { t.imu with lastAudit := some (b.closed, b.reduce) } }
  else t

end Sys2Proof.Machine
end

