-- ==== Sys2Proof/Machine/Cable.lean ====
section
/-! DEFINITION. The Cable Supervisor (Section 6): traces and verdicts, the audit queue, markers and echoes, periodic
timers, suspension and patch windows. -/

namespace Sys2Proof.Machine

open Sys2Proof

/-! ## Dither generator (R118) -/

/-- One advance of the dither register (R118). -/
def ditherNext (x : BitVec 16) : BitVec 16 :=
  if x.getLsbD 0 then (x >>> 1) ^^^ 0xB400#16 else x >>> 1

/-- The value that the next draw yields (R118). -/
def State.nextDraw (s : State) : BitVec 4 := (ditherNext s.csv.dither).setWidth 4

/-- The dither register after a draw (R118). -/
def State.advanceDither (s : State) : State := { s with csv := { s.csv with dither := ditherNext s.csv.dither } }

/-! ## Periodic timer and audit queue (R115, R117) -/

/-- The periodic timer of a port is started, or stays idle (R117). -/
def State.startTimer (p : Fin 8) (s : State) : State :=
  let c := s.cable p
  if c.record.period = 0 ∨ c.window.isSome ∨ c.suspended then s.modCable p fun c => { c with timer := none }
  else
    let target := 60 * c.record.period + s.nextDraw.toNat
    s.advanceDither.modCable p fun c => { c with timer := some { count := 0, target := target } }

/-- A request, other than MEASURE, to queue an audit of a port (R115). -/
def State.requestAudit (p : Fin 8) (s : State) : State :=
  if s.auditState p = .idle then
    { s with csv := { s.csv with audits := s.csv.audits ++ [{ port := p, adHoc := false, burst := none }] } }
  else s

/-! ## Verdicts (R108 to R111) -/

/-- The patch mark of the member on port `p` removed (R55). -/
def State.unmark (p : Fin 8) (s : State) : State :=
  match s.membership p with
  | some (g, .w) => s.modGroup g fun x => { x with markW := false }
  | some (g, .p) => s.modGroup g fun x => { x with markP := false }
  | none => s

/-- The member on port `p` marked, where its group has a protection member (R55, R123). -/
def State.mark (p : Fin 8) (s : State) : State :=
  match s.membership p with
  | some (g, m) =>
    if (s.group g).protected then
      s.modGroup g fun x => if m = .w then { x with markW := true } else { x with markP := true }
    else s
  | none => s

/-- The pending echo discarded, with a request whose stamp is still being converted (R112; log entry 39). -/
def Cable.dropEcho (c : Cable) : Cable := { c with pendingEcho := none, awaited := none }

/-- The verdict of a port changed, and delivered to the three blocks (R109); LOOPED discards a pending echo (R112). -/
def State.setVerdict (p : Fin 8) (v : Verdict) (s : State) : State :=
  let barred := (s.cable p).verdict.bars
  let s := s.modCable p fun c => { if v = .looped then c.dropEcho else c with verdict := v }
  let s := s.deliver (.port p .tim) (v == .misconnected)
  let s := s.deliver (.port p .loop) (v == .looped)
  let s := s.deliverValue (.port p .len) (v == .length) (if v = .length then some (s.cable p).lenDelay else none)
  let s := s.verdictToTiming p barred
  if v = .verified then s.unmark p else s

/-- The result of comparing the accepted trace of a port (R108). -/
def Cable.compare (c : Cable) (t : Trace) : Verdict :=
  if t = c.record.transmitted ∧ ¬(c.record.check ∧ c.record.expected = c.record.transmitted) then .looped
  else if !c.record.check || t == c.record.expected then .traceOk
  else .misconnected

/-- The accepted trace of a port, if present, compared; the result becomes the verdict, or the pending verdict of an
open window, with its follow-on (R108, R110, R124). -/
def State.compareTrace (p : Fin 8) (s : State) : State :=
  let c := s.cable p
  match c.accepted with
  | none => s
  | some t =>
    let v := c.compare t
    if c.verdict = .patching then
      s.modCable p fun c =>
        { c with pendingVerdict := some (if v = .traceOk ∧ c.record.dmax = 0 then .verified else v) }
    else if v = .traceOk then
      let s := s.setVerdict p .traceOk
      if c.record.dmax = 0 then s.setVerdict p .verified else s.requestAudit p
    else s.setVerdict p v

/-- The verdict that a completed audit's result gives (R111). -/
def CableRecord.judge (r : CableRecord) (x : AuditResult) : Verdict :=
  let d := x.delay.getD 0
  if (r.dmax = 0 ∨ (r.dmin ≤ d ∧ d ≤ r.dmax)) ∧ x.unstable = false then .verified else .length

/-- The verdicts that a length judgement acts on (R111, R124). -/
def Verdict.measurable (v : Verdict) : Bool :=
  match v with
  | .traceOk => true
  | .verified => true
  | .length => true
  | .unverified => false
  | .misconnected => false
  | .looped => false
  | .patching => false

/-- A completed audit's effect on the verdict or the pending verdict of its port (R111, R124). -/
def State.judgeAudit (p : Fin 8) (x : AuditResult) (s : State) : State :=
  let c := s.cable p
  let v := c.record.judge x
  let note (c : Cable) : Cable := if v = .length then { c with lenDelay := x.delay.getD 0 } else c
  if c.verdict = .patching then
    match c.pendingVerdict with
    | some w => if w.measurable then s.modCable p fun c => { note c with pendingVerdict := some v } else s
    | none => s
  else if c.verdict.measurable then (s.modCable p note).setVerdict p v
  else s

/-- No draw and no marker is left of the active audit, and the open local frame start at which it ends is noted
(R116). -/
def State.endMarkers (s : State) : State :=
  { s with csv := { s.csv with
      markers := .idle, endedAt := if s.moment.opened then s.tmu.frameNo else s.csv.endedAt } }

/-- The active audit ends: its record is reduced and the Supervisor acts on the result (R97, R99, R120). -/
def State.endAudit (s : State) : State :=
  match s.imu.burst with
  | none => s
  | some b =>
    let p := b.port
    let x := b.reduce
    let s := s.closeBurst b
    let s := (s.endMarkers.modCable p fun c => { c with lastResult := some x }).push (.audit p x)
    if x.completed then
      ((s.modCable p fun c => { c with failures := 0 }).judgeAudit p x).startTimer p
    else
      let n := bump (s.cable p).failures 3
      let s := s.modCable p fun c => { c with failures := n }
      if n = 3 then
        (s.modCable p fun c => { c with suspended := true, timer := none }).deliver (.port p .aud) true
      else s.startTimer p

/-- The active audit ends when its last slot is resolved (R120). -/
def State.endIfResolved (s : State) : State :=
  match s.imu.burst with
  | none => s
  | some b => if b.resolved then s.endAudit else s

/-- The outstanding slot of the burst record changed by `f`, and the audit ended if that was the last slot. -/
def State.resolveSlot (f : SampleSlot → SampleSlot) (s : State) : State :=
  match s.imu.burst with
  | none => s
  | some b => State.endIfResolved { s with imu := { s.imu with burst := some (b.onOutstanding f) } }

/-! ## Traces (R106, R107) -/

/-- A collected multiframe is valid: the start mark on the character of index 0 and on no other (R106). -/
def validMultiframe (cs : List Byte) : Bool :=
  match cs with
  | [] => false
  | c :: rest => c.getLsbD 7 && rest.all fun d => !d.getLsbD 7

/-- The 7-bit characters of a collected multiframe (R108). -/
def traceOf (cs : List Byte) : Trace := Vector.ofFn fun i => (cs.getD i.val 0).setWidth 7

/-- The candidate and its run count after a collected multiframe, which is also kept for reading (R106). -/
def Cable.collected (cs : List Byte) (c : Cable) : Cable :=
  let c := { c with collecting := none, captures := (c.captures ++ [cs]).drop (c.captures.length + 1 - 3) }
  if validMultiframe cs then
    if c.traceCandidate = some (traceOf cs) then { c with traceRun := bump c.traceRun 3 }
    else { c with traceCandidate := some (traceOf cs), traceRun := 1 }
  else { c with traceCandidate := none, traceRun := 0 }

/-- The candidate accepted and compared, where its run count has reached 3 and it differs from the accepted trace
(R107). -/
def State.acceptTrace (p : Fin 8) (s : State) : State :=
  let c := s.cable p
  if c.traceRun = 3 ∧ c.traceCandidate.isSome ∧ c.accepted ≠ c.traceCandidate then
    (s.modCable p fun c => { c with accepted := c.traceCandidate }).compareTrace p
  else s

/-- A trace character delivered with its frame index (R106). -/
def State.traceIn (p : Fin 8) (index : BitVec 4) (ch : Byte) (s : State) : State :=
  let taken : Option (List Byte) :=
    if index = 0 then some [ch]
    else
      match (s.cable p).collecting with
      | some cs => if cs.length = index.toNat then some (cs ++ [ch]) else none
      | none => none
  match taken with
  | some cs =>
    if cs.length = 16 then (s.modCable p (Cable.collected cs)).acceptTrace p
    else s.modCable p fun c => { c with collecting := some cs }
  | none => s.modCable p fun c => { c with collecting := none }

/-- Loss of multiframe alignment at the Supervisor (R106, R112). -/
def State.traceGap (p : Fin 8) (s : State) : State :=
  s.modCable p fun c => { c.dropEcho with traceCandidate := none, traceRun := 0, collecting := none }

/-- The port leaves SYNC at the Supervisor (R107, R110, R112, R120, R124). -/
def State.cableOutOfSync (p : Fin 8) (s : State) : State :=
  let s := (s.traceGap p).modCable p fun c => { c with accepted := none, captures := [] }
  let s :=
    if (s.cable p).verdict = .patching then s.modCable p fun c => { c with pendingVerdict := none }
    else s.setVerdict p .unverified
  if s.auditActive p then s.endAudit else s

/-! ## Audits (R113, R114, R116) -/

/-- A queued audit can run (R116). -/
def State.runnable (s : State) (p : Fin 8) : Bool :=
  s.inSync p && (s.cable p).verdict != .looped && (s.port p).loopback != .facility

/-- The burst record opened for an entry (R93, R116). -/
def State.openBurst (e : AuditEntry) (s : State) : State :=
  let r := (s.cable e.port).record
  let b : Burst :=
    { port := e.port, adHoc := e.adHoc, ofs := r.ofs, defaultTa := r.defaultTa, spreadLimit := r.spreadLimit,
      slots := List.replicate (e.burst.getD r.burst) .pending }
  { s with
    imu := { s.imu with burst := some b }
    csv := { s.csv with markers := .idle } }

/-- The heads of the audit queue taken until an audit is active or the queue is empty (R116). -/
def takeAudits (es : List AuditEntry) (s : State) : State :=
  match es with
  | [] => s
  | e :: rest =>
    let t : State := { s with csv := { s.csv with audits := rest } }
    if t.runnable e.port then t.openBurst e else takeAudits rest (t.startTimer e.port)

/-- AUDIT_START at a local frame start of index 0, unless an audit has ended at this same one (R116). -/
def State.auditStartStep (s : State) : State :=
  if s.index = 0 ∧ s.imu.burst.isNone ∧ s.csv.endedAt ≠ s.tmu.frameNo then takeAudits s.csv.audits s else s

/-- The outstanding slot resolved as missing at the fourth local frame start after its departure (R114). -/
def State.echoTimeoutStep (s : State) : State :=
  match s.imu.burst with
  | none => s
  | some b =>
    let late (x : SampleSlot) : Bool :=
      match x with
      | .outstanding _ frame found => !found && decide (frame + Config.echoFrames ≤ s.tmu.frameNo)
      | .pending => false
      | .present _ => false
      | .missing => false
    if b.slots.any late then s.resolveSlot fun x => if late x then .missing else x else s

/-- The draw of the active audit at a local frame start of index 0 (R113). -/
def State.drawStep (s : State) : State :=
  match s.imu.burst with
  | none => s
  | some b =>
    if s.index = 0 ∧ s.csv.markers.draws < b.slots.length ∧ s.csv.markers.drawnIn ≠ s.tmu.frameNo then
      let t := s.advanceDither
      { t with csv := { t.csv with markers :=
          { t.csv.markers with
            draws := t.csv.markers.draws + 1, drawn := some s.nextDraw, drawnIn := s.tmu.frameNo } } }
    else s

/-- A drawn index that the local frame has reached makes its marker due (R113). -/
def Markers.reach (index : BitVec 4) (m : Markers) : Markers :=
  match m.drawn with
  | some d => if d ≤ index then { m with drawn := none, due := m.due + 1 } else m
  | none => m

/-- A due marker departs at this local frame start if no slot is outstanding (R113, R82). -/
def State.departStep (s : State) : State :=
  match s.imu.burst with
  | none => s
  | some b =>
    let m := s.csv.markers.reach s.index
    let s : State := { s with csv := { s.csv with markers := m } }
    if 0 < m.due ∧ b.waiting = false then
      let s : State :=
        { s with
          imu := { s.imu with burst := some (b.depart (.exact s.frameMark) s.tmu.frameNo) }
          csv := { s.csv with markers := { m with due := m.due - 1 } } }
      s.modCable b.port fun c => { c with markerOut := true }
    else s

/-- The pending echo of a port sent in the frame that begins at this local frame start (R96, R112). -/
def State.echoStep (p : Fin 8) (s : State) : State :=
  match (s.cable p).pendingEcho with
  | none => s
  | some a =>
    if Config.echoHold ≤ interval a (.exact s.frameMark) then
      s.modCable p fun c => { c with echoOut := some (turnaround a (.exact s.frameMark)), pendingEcho := none }
    else s

/-- A received MREQ sets the pending echo of its port: at once to a coarse-only stamp, and when the conversion is
complete to the stamp of the vernier `v` (R84, R90, R112). -/
def State.markerIn (p : Fin 8) (arrival : Stamp) (v : Option (Fin 4)) (s : State) : State :=
  if (s.cable p).verdict = .looped then s
  else
    s.modCable p fun c =>
      match v with
      | some v => { c with awaited := some v }
      | none => { c with pendingEcho := some arrival, awaited := none }

/-- A stamp converted by vernier `v` becomes the pending echo of the port that awaits it (R84, R112). -/
def State.stampToEcho (v : Fin 4) (x : Stamp) (s : State) : State :=
  overAll (fun p t =>
    t.modCable p fun c => if c.awaited = some v then { c with pendingEcho := some x, awaited := none } else c) s

/-! ## Suspension (R121) -/

/-- A CLEAR that covers the AUD alarm of a port (R121). -/
def State.clearSuspension (p : Fin 8) (s : State) : State :=
  if (s.cable p).suspended then
    ((s.modCable p fun c => { c with suspended := false, failures := 0 }).deliver (.port p .aud) false).requestAudit p
  else s.modCable p fun c => { c with failures := 0 }

/-! ## Patch windows (R123, R125) -/

/-- The PATCH profile taken into use on a port, or given up (R155, R167). -/
def State.setPatched (p : Fin 8) (b : Bool) (s : State) : State :=
  s.reprofile fun t => { t with alu := { t.alu with patched := t.alu.patched.set p b } }

/-- A patch window opens (R123). -/
def State.openWindow (p : Fin 8) (minutes : Nat) (override : Bool) (s : State) : State :=
  let s := s.modCable p fun c =>
    { c with window := some { remaining := 60 * minutes, override := override }, pendingVerdict := none }
  let s := s.setVerdict p .patching
  let s := s.mark p
  let s := s.setPatched p true
  let s := s.modCable p fun c => { c with timer := none }
  s.push (.patch p (if override then .openOverride else .opened))

/-- A patch window closes (R125). -/
def State.closeWindow (p : Fin 8) (cause : PatchCause) (s : State) : State :=
  let v := (s.cable p).pendingVerdict.getD .unverified
  let s := (s.modCable p fun c => { c with pendingVerdict := none }).setVerdict p v
  let s := s.modCable p fun c => { c with window := none }
  let s := s.setPatched p false
  let s := (s.requestAudit p).startTimer p
  s.push (.patch p cause)

/-! ## One-second tick (R117, R124) -/

/-- The periodic timer of a port at a one-second tick (R117). -/
def State.periodicTick (p : Fin 8) (s : State) : State :=
  match (s.cable p).timer with
  | none => s
  | some t =>
    if t.target ≤ t.count + 1 then
      match s.auditState p with
      | .idle =>
        if (s.cable p).verdict.measurable then (s.modCable p fun c => { c with timer := none }).requestAudit p
        else s.startTimer p
      | .queued => s.modCable p fun c => { c with timer := none }
      | .active => s.modCable p fun c => { c with timer := none }
      | .suspended => s.modCable p fun c => { c with timer := none }
    else s.modCable p fun c => { c with timer := some { t with count := t.count + 1 } }

/-- The patch window of a port at a one-second tick (R124, R125). -/
def State.windowTick (p : Fin 8) (s : State) : State :=
  match (s.cable p).window with
  | none => s
  | some w =>
    if w.remaining ≤ 1 then s.closeWindow p .expired
    else s.modCable p fun c => { c with window := some { w with remaining := w.remaining - 1 } }

/-! ## Warm restart (R127) -/

/-- An audit of every port with a length-proved or provable verdict queued, in port order; the idle timers of the
others started (R127). -/
def State.requeue (p : Fin 8) (s : State) : State :=
  if (s.cable p).verdict.measurable then
    { s with csv := { s.csv with audits := s.csv.audits ++ [{ port := p, adHoc := false, burst := none }] } }
  else if (s.cable p).timer.isNone then s.startTimer p
  else s

/-- The Cable Supervisor's warm restart (R98, R127). -/
def State.warmCable (s : State) : State :=
  let s : State := { s.dropBurst with csv := { s.csv with audits := [], markers := .idle } }
  let s := overAll (fun p t =>
    (t.modCable p fun c => { c with suspended := false, failures := 0 }).deliver (.port p .aud) false) s
  overAll State.requeue s

end Sys2Proof.Machine
end

