-- ==== Sys2Proof/Machine/Vernier.lean ====
section
/-! DEFINITION. The Interval Measurement Unit at work (Sections 5.2 to 5.4 and 5.9): calibration rounds, the vernier
arbiter, conversions and what their stamps give to the claimants, and the passing of time. -/

namespace Sys2Proof.Machine

open Sys2Proof

/-! ## Calibration (R85 to R87) -/

/-- The round reaches vernier `v`: its turn begins at once, or when its conversion ends (R85). -/
def State.beginTurn (v : Fin 4) (s : State) : State :=
  match (s.vernier v).state with
  | .busy _ => { s with imu := { s.imu with round := some { turn := v, begun := false, since := s.imu.clk } } }
  | _ =>
    let t := s.modVernier v fun y => { y with state := .calibrating }
    { t with imu := { t.imu with round := some { turn := v, begun := true, since := t.imu.clk } } }

/-- A calibration round is requested (R87). -/
def State.requestRound (s : State) : State :=
  if s.imu.round.isNone then s.beginTurn 0 else { s with imu := { s.imu with roundPending := true } }

/-- The mean of the 64 readings of a turn, rounded half up; a reading past the last tap is 64 (R85). -/
def calibrationResult (readings : Vector Nat 64) : Nat :=
  (2 * (readings.toList.map fun x => min x 64).sum + 64) / 128

/-- A calibration result is valid (R86). -/
def validCal (n : Nat) : Bool := decide (24 ≤ n ∧ n ≤ 63)

/-- A vernier at the end of its turn (R86). -/
def Vernier.judged (n : Nat) (x : Vernier) : Vernier :=
  if validCal n then { x with state := .free, cal := some n, lastResult := some n, faulted := false }
  else { x with state := .calFault, cal := none, lastResult := some n, faulted := true }

/-- The CAL defect judged from the fault marks, and delivered (R86). -/
def State.judgeCal (s : State) : State :=
  let b := s.imu.verniers.toList.any Vernier.faulted
  State.deliver .cal b { s with imu := { s.imu with calDefect := b } }

/-- The round after the turn of vernier `v` (R85, R87). -/
def State.nextTurn (v : Fin 4) (s : State) : State :=
  if v = 3 then
    let t : State := { s with imu := { s.imu with round := none, roundPending := false } }
    if s.imu.roundPending then t.beginTurn 0 else t
  else s.beginTurn (v + 1)

/-- The turn of vernier `v` ends with result `n` (R85, R86). -/
def State.endTurn (v : Fin 4) (n : Nat) (s : State) : State :=
  let s := s.modVernier v (Vernier.judged n)
  let s := if validCal n then s else s.setNews fun x => { x with fault := true }
  s.judgeCal.nextTurn v

/-! ## Conversions (R84, R88 to R90, R134) -/

/-- The lowest-numbered usable vernier that a claimed arrival may take (R89). -/
def State.arbitrate (s : State) (reference : Bool) : Option (Fin 4) :=
  if reference || !s.reserved then (List.finRange 4).find? fun v => (s.vernier v).usable
  else ([1, 2, 3] : List (Fin 4)).find? fun v => (s.vernier v).usable

/-- The phase sample that a stamp gives (R134). -/
def State.sampleOf (s : State) (x : Stamp) : Int × Bool := (interval (.exact s.multiframeMark) x, x.isCoarse)

/-- A stamp delivered to the candidate that claimed it (R134). -/
def State.stampToCandidate (k : Option (Fin 10)) (x : Stamp) (s : State) : State :=
  match k with
  | some k => s.phaseSample k (some (s.sampleOf x))
  | none => s

/-- The arrival stamp and the TA field of the echo of the outstanding slot reported to the burst record (R94, R114). -/
def State.echoReport (x : Stamp) (ta : BitVec 24) (s : State) : State :=
  match s.imu.burst with
  | none => s
  | some b =>
    s.resolveSlot fun slot =>
      match slot with
      | .outstanding d _ _ => resolveEcho b d x ta
      | .pending => slot
      | .present _ => slot
      | .missing => slot

/-- An outstanding slot whose echo has been found awaits its stamp. -/
def SampleSlot.isFound (x : SampleSlot) : Bool :=
  match x with
  | .outstanding _ _ found => found
  | .pending => false
  | .present _ => false
  | .missing => false

/-- The stamp of a found echo delivered to the active audit (R94). -/
def State.stampToAudit (ta : Option (BitVec 24)) (x : Stamp) (s : State) : State :=
  match ta, s.imu.burst with
  | some f, some b => if b.slots.any SampleSlot.isFound then s.echoReport x f else s
  | _, _ => s

/-- The conversion of vernier `v` ends: the vernier returns to FREE or begins its calibration turn, and the stamp is
delivered to its claimants (R84, R85), the candidate before the active audit and that before the echoing end, so a REFSEL
record comes before the AUDIT record (DESIGN CHOICE, log entry 44). -/
def State.complete (v : Fin 4) (s : State) : State :=
  match (s.vernier v).state with
  | .busy c =>
    let t := (s.advanceClock c.due).modVernier v fun x => { x with state := .free }
    let t :=
      match t.imu.round with
      | some r => if r.turn = v ∧ r.begun = false then t.beginTurn v else t
      | none => t
    ((t.stampToCandidate c.candidate c.stamp).stampToAudit c.echo c.stamp).stampToEcho v c.stamp
  | .free => s
  | .calibrating => s
  | .calFault => s

/-- The clock at which the conversion of a vernier ends. -/
def Vernier.due (x : Vernier) : Option Nat :=
  match x.state with
  | .busy c => some c.due
  | .free => none
  | .calibrating => none
  | .calFault => none

/-- The vernier whose conversion ends first, of those that end no later than `t`; of several that end at one clock the
lowest-numbered one (DESIGN CHOICE, log entry 33). -/
def State.firstDue (s : State) (t : Nat) : Option (Fin 4) :=
  (List.finRange 4).foldl (fun best v =>
    match (s.vernier v).due with
    | none => best
    | some d =>
      if t < d then best
      else
        match best with
        | none => some v
        | some b => if d < ((s.vernier b).due.getD 0) then some v else some b) none

/-- The conversions that end no later than `t`, one after the other; no more than four can run. -/
def completeUpTo (fuel t : Nat) (s : State) : State :=
  match fuel with
  | 0 => s
  | n + 1 =>
    match s.firstDue t with
    | some v => completeUpTo n t (s.complete v)
    | none => s

/-- The clock at which the sample windows of this multiframe close (R134). -/
def State.windowEnd (s : State) : Nat := s.imu.multiframeStart + Config.sampleWindow

/-- The sample of candidate `k` is missing, if its claim is still open (R134). -/
def State.missSample (k : Fin 10) (s : State) : State :=
  if (s.cand k).claim then s.phaseSample k none else s

/-- Everything in the measurement unit that falls due up to the clock `t`: conversions end, and after the sample
windows have closed the open claims give missing samples (R84, R134), the candidates in rising order, so the RAISED
records of several LATCHED REF cells stand in that order (DESIGN CHOICE, log entry 44). A conversion that ends at the
very clock at which the windows close ends before the missing samples, whatever the order of the commands, so its REFSEL
or AUDIT record stands before a RAISED record of a LATCHED REF cell that a missing sample makes there; R134 and R175 leave
that order open (DESIGN CHOICE, log entry 47). -/
def State.settle (t : Nat) (s : State) : State :=
  let s1 := completeUpTo 4 (min t s.windowEnd) s
  let s2 := if s.windowEnd < t then overAll State.missSample s1 else s1
  completeUpTo 4 t s2

/-- Time passes to the clock `t`. What falls due at `t` itself happens first: an arrival latched at the very clock edge
at which a conversion ends finds its vernier FREE (DESIGN CHOICE, log entry 47). -/
def State.advanceTo (t : Nat) (s : State) : State := (s.settle t).advanceClock t

/-! ## Arrivals (R84, R88 to R90) -/

/-- The clock up to which time may pass: the coming local frame start, and no time while its instant is open (log
entries 2, 5). -/
def State.horizon (s : State) : Nat := if s.moment.opened then s.imu.clk else s.tmu.nextStart

/-- The clock of the edge that latches an arrival of this local frame (log entry 5). -/
def State.latchClock (s : State) (a : Arrival) : Nat := max s.imu.clk (min (s.imu.frameStart + a.clk) s.horizon)

/-- The arrivals of this moment fall after the departure of an outstanding slot whose echo has not been found: that
departure lies in an earlier local frame, or the clock is past the mark of this one (R88). An arrival latched at the very
clock edge of the departure counts as before it and is not claimed (DESIGN CHOICE, log entry 46). -/
def SampleSlot.awaitsEcho (frame : Nat) (pastMark : Bool) (x : SampleSlot) : Bool :=
  match x with
  | .outstanding _ n found => !found && (decide (n < frame) || pastMark)
  | .pending => false
  | .present _ => false
  | .missing => false

/-- The active audit on port `p` waits for an echo that has not been found (R88, R114). -/
def State.auditClaims (s : State) (p : Fin 8) : Bool :=
  match s.imu.burst with
  | some b =>
    b.port == p && b.slots.any (SampleSlot.awaitsEcho s.tmu.frameNo (decide (s.imu.frameStart < s.imu.clk)))
  | none => false

/-- The echoing end claims the arrivals of port `p` (R88). -/
def State.echoClaims (s : State) (p : Fin 8) : Bool :=
  s.inSync p && (s.port p).aligned && (s.cable p).verdict != .looped

/-- The candidate `k` claims an arrival at this moment, after the multiframe mark and no later than its window
(R88, R134). -/
def State.candClaims (s : State) (k : Fin 10) : Bool :=
  (s.cand k).entry.enabled && (s.cand k).claim && decide (s.imu.multiframeStart < s.imu.clk) &&
    decide (s.imu.clk ≤ s.windowEnd)

/-- A stamp formed for an arrival, and the vernier that converts it, if one does. -/
structure Stamped where
  stamp : Stamp
  vernier : Option (Fin 4)
  deriving DecidableEq, Repr

/-- A claimed arrival is given a vernier or a coarse-only stamp, the coarse one delivered to the candidate at once
(R84, R89, R90). -/
def State.stampArrival (tap : BitVec 6) (k : Option (Fin 10)) (s : State) : Stamped × State :=
  let reference := k.isSome && k == s.tmu.selected
  let s := match k with
    | some k => s.modCand k fun c => { c with claim := false }
    | none => s
  match s.arbitrate reference with
  | some v =>
    let x := Stamp.fine s.timeCounter tap.toNat ((s.vernier v).cal.getD 0)
    let c : Conversion := { stamp := x, due := s.imu.clk + Config.conversionClocks, candidate := k, echo := none }
    (⟨x, some v⟩, s.modVernier v fun y => { y with state := .busy c })
  | none =>
    let x := Stamp.coarse s.timeCounter
    let s : State := { s with imu := { s.imu with coarseCount := bump s.imu.coarseCount 65535 } }
    (⟨x, none⟩, s.stampToCandidate k x)

/-- The echo of the outstanding slot is found: its stamp is awaited, or is there at once if it is coarse-only
(R90, R94, R114). -/
def State.echoFound (x : Stamped) (ta : BitVec 24) (s : State) : State :=
  match x.vernier with
  | none => s.echoReport x.stamp ta
  | some v =>
    let s := s.modVernier v fun y =>
      match y.state with
      | .busy c => { y with state := .busy { c with echo := some ta } }
      | .free => y
      | .calibrating => y
      | .calFault => y
    match s.imu.burst with
    | none => s
    | some b =>
      let mark (slot : SampleSlot) : SampleSlot :=
        match slot with
        | .outstanding d n _ => .outstanding d n true
        | .pending => slot
        | .present _ => slot
        | .missing => slot
      { s with imu := { s.imu with burst := some (b.onOutstanding mark) } }

/-- A pulse edge of station input `i`, the last of `n` edges counted since the ones before (R88, R134, R135). -/
def State.stationPulse (i : Fin 2) (n : Nat) (a : Arrival) (s : State) : State :=
  let s := (s.advanceTo (s.latchClock a)).modStation i (StationInput.pulse n)
  if s.candClaims (stationCand i) then (s.stampArrival a.tap (some (stationCand i))).2 else s

/-- STATION_PULSE: the divider gives a pulse edge at every 256th edge and at no other (R135). -/
def State.pulseReported (i : Fin 2) (x : PulseEdge) (s : State) : State :=
  if (s.tmu.stations[i]).divider + x.edges = 256 then s.stationPulse i x.edges x.arrival else s

/-- The edges that the divider of station input `i` lacks to its pulse fall in this local frame, by the edges that the
outside gives for it, and no row has counted them (R135; log entry 21). -/
def State.pulseDue (s : State) (i : Fin 2) : Bool :=
  let x := s.tmu.stations[i]
  s.tmu.started && !s.moment.done.contains (.station i) &&
    decide (256 ≤ x.divider + (s.inputs.frame.edges[i] - x.counted))

/-- The pulse of station input `i`, if it is due and falls no later than the clock `t` (R135; log entry 21). -/
def State.pulseBy (t : Nat) (i : Fin 2) (s : State) : State :=
  let a := s.inputs.frame.pulses[i]
  if s.pulseDue i && decide (s.latchClock a ≤ t) then s.stationPulse i (256 - (s.tmu.stations[i]).divider) a else s

/-- The pulses that fall no later than the clock `t`, the earlier one first (R135; log entry 21), and of two at one clock
that of S0 first, so it takes its vernier first (R89; DESIGN CHOICE, log entry 43). -/
def State.pulsesUpTo (t : Nat) (s : State) : State :=
  let a := s.inputs.frame.pulses
  if a[1].clk < a[0].clk then (s.pulseBy t 1).pulseBy t 0 else (s.pulseBy t 0).pulseBy t 1

/-! ## The rows that name a moment of the unit -/

/-- Something that falls at the clock `t` happens no later than the coming local frame start (log entry 3). -/
def State.within (s : State) (t : Nat) : Bool := decide (t ≤ s.horizon)

/-- STAMP_COMPLETE of vernier `v` (R84). -/
def State.stampCompleteStep (v : Fin 4) (s : State) : State :=
  match (s.vernier v).due with
  | some d => if s.within d then s.advanceTo d else s
  | none => s

/-- PHASE_SAMPLE_MISSING of candidate `k` (R134), after the conversions that end at that clock (log entry 47). -/
def State.missingStep (k : Fin 10) (s : State) : State :=
  if (s.cand k).claim && s.within s.windowEnd then (s.advanceTo s.windowEnd).missSample k else s

/-- CALIBRATION_TURN_END with the 64 readings of the turn (R85, R86). A conversion that ends at the very clock at which the
turn ends is taken first, whatever the order of the commands, so its AUDIT or REFSEL record stands before a RAISED record of
a LATCHED CAL cell that the end of the turn makes; R85, R86 and R175 leave that order open (DESIGN CHOICE, log entry 47). -/
def State.turnEndStep (readings : Vector Nat 64) (s : State) : State :=
  match s.imu.round with
  | some r =>
    if r.begun && s.within (r.since + Config.turnClocks) then
      (s.advanceTo (r.since + Config.turnClocks)).endTurn r.turn (calibrationResult readings)
    else s
  | none => s

/-! ## Warm restart (R101) -/

/-- A vernier at a warm restart (R101). -/
def Vernier.warm (x : Vernier) : Vernier :=
  let state : VernierState :=
    match x.state with
    | .busy c => .busy c
    | .free => .free
    | .calibrating => .free
    | .calFault => .free
  { x with state := state, cal := if x.faulted then none else x.cal, faulted := false }

/-- The Interval Measurement Unit's warm restart (R98, R101). -/
def State.warmMeasurement (s : State) : State :=
  let t : State :=
    { s with imu := { s.imu with
        verniers := s.imu.verniers.map Vernier.warm, round := none, roundPending := false, coarseCount := 0 } }
  t.dropBurst.judgeCal.beginTurn 0

end Sys2Proof.Machine
end

