-- ==== Sys2Proof/Machine/Protection.lean ====
section
/-! DEFINITION. The Protection Controller (Sections 3 and 4): the evaluation of a group at a local frame start, the
persistence filter of the switch signal, operator requests, and the reset of a group. -/

namespace Sys2Proof.Machine

open Sys2Proof

/-! ## Conditions (R47, R48) -/

/-- One hold-off count at a local frame start, for the condition as it stands and the limit in local frames (R48). -/
def HoldOff.update (limit : Nat) (set : Bool) (x : HoldOff) : HoldOff :=
  if set then
    let n := if x.count < limit then x.count + 1 else x.count
    { count := n, after := decide (limit ≤ n) }
  else .clear

/-- The hold-off of a group in local frames (R48). -/
def GroupRecord.limit (r : GroupRecord) : Nat := Config.framesPer100ms * r.holdOff

/-- SF of a member of group `g`; a member that does not exist has none (R47). -/
def State.memberSf (s : State) (g : Fin 8) (m : Member) : Bool :=
  match (s.group g).portOf m with
  | some p => s.sf p
  | none => false

/-- SD of a member of group `g` (R47). -/
def State.memberSd (s : State) (g : Fin 8) (m : Member) : Bool :=
  match (s.group g).portOf m with
  | some p => s.sd g p
  | none => false

/-- The hold-off counts of a group at a local frame start (R48). -/
def Group.updateHoldOffs (sfW sdW sfP sdP : Bool) (x : Group) : Group :=
  let n := x.record.limit
  { x with sfW := x.sfW.update n sfW, sdW := x.sdW.update n sdW, sfP := x.sfP.update n sfP, sdP := x.sdP.update n sdP }

/-! ## Requests (R49, R53, R56 to R58) -/

/-- The code of the highest active request, 0 if there is none (R49). -/
def Group.highestCode (x : Group) : Nat :=
  match x.highestActive with
  | some r => r.code.toNat
  | none => 0

/-- A stored MAN request that is outranked at this local frame start is removed (R53). -/
def Group.removeMan (x : Group) : Group :=
  if (x.operator = .manP ∨ x.operator = .manW) ∧
      (x.operator.code.toNat < x.highestCode ∨ x.operator.code.toNat < x.receivedWeight) then
    { x with operator := .none }
  else x

/-- The WTR count at a one-second tick; WAIT expires when it reaches the WTR (R57). -/
def Group.wtrTick (x : Group) : Group :=
  match x.restore, x.wtrCount with
  | .wait, some n =>
    if 10 * x.record.wtr ≤ n + 1 then { x with restore := .none, wtrCount := none } else { x with wtrCount := some (n + 1) }
  | _, _ => x

/-- The top local requests after which a group waits to restore, or holds (R56, R58). -/
def LocalRequest.restores (revertive : Bool) (r : LocalRequest) : Bool :=
  match r with
  | .failW => true
  | .degrW => true
  | .force => !revertive
  | .patchW => !revertive
  | .manP => !revertive
  | .lock => false
  | .patchP => false
  | .failP => false
  | .degrP => false
  | .manW => false
  | .wait => false
  | .hold => false
  | .none => false

/-- The restoring rules at a local frame start: the selector and the top local request are those of the local frame
start before (R56 to R58). -/
def Group.restoring (x : Group) : Group :=
  if x.highestActive.isSome then { x with restore := .none, wtrCount := none }
  else if x.restore = .none ∧ x.selector = .p ∧ x.top.restores x.record.revertive then
    if x.record.revertive then { x with restore := .wait, wtrCount := some 0 } else { x with restore := .hold }
  else x

/-- The top local request is chosen (R49). -/
def Group.chooseTop (x : Group) : Group :=
  let r : LocalRequest :=
    match x.highestActive, x.restore with
    | some r, _ => r
    | none, .wait => .wait
    | none, .hold => .hold
    | none, .none => .none
  { x with top := r }

/-! ## The switch signal (R70 to R78) -/

/-- The accepted received value mismatches the record of group `g` (R77). -/
def Group.mismatch (g : Fin 8) (x : Group) : Bool :=
  match x.accepted with
  | some r => r.group.toNat != g.val || r.arch != x.record.arch || r.direction != x.record.direction
  | none => false

/-- The mismatch check at a local frame start (R77). -/
def Group.checkMismatch (g : Fin 8) (x : Group) : Group := if x.mismatch g then { x with psf := some .mismatch } else x

/-- The transmitted request is the top local request (R70, R71). -/
def Group.sendLocal (x : Group) : Group := { x with txRequest := x.top.code, txChannel := x.top.channel }

/-- The transmitted request and channel (R70, R71). -/
def Group.chooseTx (x : Group) : Group :=
  match x.record.direction, x.psf, x.accepted with
  | .bothEnds, none, some r =>
    if x.top.code.toNat < receivedPriority r.request then { x with txRequest := 2, txChannel := r.channel }
    else x.sendLocal
  | _, _, _ => x.sendLocal

/-- The confirm timer, where `before` is the channel transmitted until now (R75). -/
def Group.confirmStep (before : Member) (x : Group) : Group :=
  match x.record.direction, x.psf, x.accepted with
  | .bothEnds, none, some r =>
    if x.txChannel = r.channel then { x with confirm := none }
    else
      match x.confirm with
      | none => { x with confirm := some 0 }
      | some n => { x with confirm := some (if x.txChannel = before then n + 1 else 0) }
  | _, _, _ => { x with confirm := none }

/-- The confirm timer expires (R76). -/
def Group.confirmExpiry (x : Group) : Group :=
  match x.confirm with
  | some n => if Config.agreementFrames ≤ n then { x.sendLocal with psf := some .timeout, confirm := none } else x
  | none => x

/-- The group is in agreement with the far end (R78). -/
def Group.inAgreement (g : Fin 8) (x : Group) : Bool :=
  match x.accepted with
  | some r => !x.mismatch g && (x.record.direction == .oneEnd || r.channel == x.txChannel)
  | none => false

/-- The agreement count and the end of PSF; `before` is PSF at the local frame start before (R78). -/
def Group.agree (g : Fin 8) (before : Option PsfCause) (x : Group) : Group :=
  if x.psf.isNone ∨ before.isNone then { x with agreement := 0 }
  else if x.inAgreement g then
    if Config.agreementFrames ≤ x.agreement + 1 then { x with psf := none, agreement := 0 }
    else { x with agreement := x.agreement + 1 }
  else { x with agreement := 0 }

/-- The far end agrees on the transmitted channel, and has bridged where a SPARE group needs it (R73). -/
def Group.agreed (x : Group) (r : SwitchSignal) : Bool :=
  r.channel == x.txChannel && (x.record.arch == .pair || x.txChannel == .w || r.bridged)

/-- The selector (R59 step 4, R73). -/
def Group.setSelector (x : Group) : Group :=
  let m : Member :=
    match x.record.direction with
    | .oneEnd => x.top.channel
    | .bothEnds =>
      if x.locked then .w
      else
        match x.psf, x.accepted with
        | none, some r => if x.agreed r then x.txChannel else x.selector
        | _, _ => x.txChannel
  { x with selector := m }

/-- The bridge (R62, R72). -/
def Group.setBridge (x : Group) : Group :=
  { x with bridge :=
      match x.record.arch with
      | .pair => true
      | .spare => x.txChannel == .p }

/-- WAIT and HOLD are cancelled where the selector is on W after the evaluation (R57, R58). -/
def Group.cancelRestore (x : Group) : Group :=
  if x.selector = .w then { x with restore := .none, wtrCount := none } else x

/-- The protocol state (R69). -/
def Group.judgeProtocol (x : Group) : Group :=
  { x with protocol :=
      if x.psf.isSome then .fallback
      else if x.confirm.isSome then .switching
      else if x.accepted.isNone then .idle
      else .steady }

/-- The evaluation of a protected group up to its transmitted request and channel (R59 steps 1 to 3, R70, R71, R77);
`tick` says that the local frame start is a one-second tick (R57). -/
def Group.requested (g : Fin 8) (tick sfW sdW sfP sdP : Bool) (x : Group) : Group :=
  let a := (if tick then x.wtrTick else x).updateHoldOffs sfW sdW sfP sdP
  ((a.removeMan.restoring.chooseTop).checkMismatch g).chooseTx

/-- The evaluation of a protected group from its conditions (R59 steps 1 to 5, R66, R69 to R78). -/
def Group.evaluate (g : Fin 8) (tick sfW sdW sfP sdP : Bool) (x : Group) : Group :=
  let c := ((x.requested g tick sfW sdW sfP sdP).confirmStep x.txChannel).confirmExpiry
  let d := (c.agree g x.psf).setSelector.setBridge.cancelRestore.judgeProtocol
  { d with txBridged := d.bridge }

/-- An unprotected group at a local frame start (R49, R60, R62, R66, R67, R69). -/
def Group.evaluateAlone (sfW sdW : Bool) (x : Group) : Group :=
  let y := x.updateHoldOffs sfW sdW false false
  { y with
    selector := .w, top := .none, restore := .none, wtrCount := none, accepted := none, candidate := none, run := 0,
    txRequest := 0, txChannel := .w, bridge := false, txBridged := false, confirm := none, psf := none,
    agreement := 0, protocol := .idle }

/-! ## Selector changes (R61, R74) -/

/-- The request code and whether the far end decided, for a selector change of this local frame start (R61, R74). -/
def Group.moveCause (x : Group) : BitVec 4 × Bool :=
  if x.rewritten ∧ x.selector = .w then (0, false)
  else
    match x.record.direction with
    | .oneEnd => (x.top.code, false)
    | .bothEnds =>
      if x.locked then (15, false)
      else
        match x.psf, x.accepted with
        | none, some r => if x.txRequest = 2 then (r.request, true) else (x.txRequest, false)
        | _, _ => (x.txRequest, false)

/-- The port that this local frame start's selection is compared with (R45): that of the last local frame start, or
the working port of a group defined since. -/
def Group.oldPort (x : Group) : Option (Fin 8) := x.selectedPort.or (x.portOf .w)

/-- The source port, as the management group and its selector stand (R184). -/
def State.sourceStep (s : State) : State :=
  let x := s.managementGroup
  { s with mci := { s.mci with source := x.portOf x.selector } }

/-- The selector of the management group has chosen, and `moved` or stayed: the source port is the chosen member's
(R184), and a new choice discards a partly received message (R186). -/
def State.takeSource (moved : Bool) (s : State) : State :=
  let t := s.sourceStep
  if moved || (s.mci.source.isSome && s.mci.source != t.mci.source) then t.discardMessage else t

/-- The selector of group `g` compared with that of the last local frame start, or with an evaluation before in the
same instant (`again`): guard frame, SWITCH record, TRAFFIC, and in the management group the source port (R34, R45, R61,
R184, R186). -/
def State.reportSelector (g : Fin 8) (again : Bool) (s : State) : State :=
  let x := s.group g
  let port := x.portOf x.selector
  let moved := x.defined && port != x.oldPort
  let s := s.modGroup g fun x =>
    { x with guard := moved || (again && x.guard), selectedPort := port, rewritten := false }
  let s :=
    if moved then
      (s.push (.switch g x.selector x.moveCause.1 x.moveCause.2)).setNews fun n => { n with traffic := true }
    else s
  if g = s.mci.group then s.takeSource moved else s

/-- UNPROT of a group (R63). -/
def State.unprotNow (s : State) (g : Fin 8) : Bool :=
  let x := s.group g
  x.protected && (s.memberSf g .p || x.locked ||
    (match x.portOf .p with
     | some p => (s.cable p).window.isSome
     | none => false))

/-- Group `g` as its evaluation at the open local frame start leaves it, with the conditions as they stand (R59). -/
def State.evaluated (s : State) (g : Fin 8) : Group :=
  let x := s.group g
  if x.protected then
    x.evaluate g s.moment.tick (s.memberSf g .w) (s.memberSd g .w) (s.memberSf g .p) (s.memberSd g .p)
  else if x.defined then x.evaluateAlone (s.memberSf g .w) (s.memberSd g .w)
  else x

/-- The evaluation of group `g` at a local frame start (R59 to R63, R66, R69 to R78), the first one in its instant or
one made `again` after a reset: PSF is delivered, then the selector reported, then UNPROT delivered (DESIGN CHOICE, log
entry 37). -/
def State.groupStep (g : Fin 8) (again : Bool) (s : State) : State :=
  let y := s.evaluated g
  let s := (s.modGroup g fun _ => y).deliver (.psf g) y.psf.isSome
  let s := s.reportSelector g again
  let b := s.unprotNow g
  (s.modGroup g fun x => { x with unprot := b }).deliver (.unprot g) b

/-- The evaluation of group `g`, made once in the instant of a local frame start, and again after a reset that followed
it there (R195; log entry 2). -/
def State.groupTurn (g : Fin 8) (s : State) : State :=
  let again := s.moment.done.contains (.group g)
  if again && !(s.group g).rewritten then s
  else State.groupStep g again { s with moment := { s.moment with done := .group g :: s.moment.done } }

/-- The source port chosen at the open local frame start: the member that the management group's selector has chosen
there, or chooses in the evaluation still to come (R184, R186, R195). -/
def State.chooseSource (s : State) : State :=
  let g := s.mci.group
  let x := if s.moment.done.contains (.group g) && !(s.group g).rewritten then s.group g else s.evaluated g
  { s with mci := { s.mci with source := x.portOf x.selector } }

/-! ## The persistence filter (R68) -/

/-- A usable frame's signal enters the filter (R68). -/
def Group.takeSignal (v : SwitchSignal) (x : Group) : Group :=
  let n := if x.candidate = some v then bump x.run 3 else 1
  { x with candidate := some v, run := n, accepted := if n = 3 then some v else x.accepted }

/-! ## Reset of a group (R45, R80) -/

/-- Record `r` stored for group `g`, and the group's dynamic state reset (R45, R80). -/
def State.resetGroup (g : Fin 8) (r : GroupRecord) (s : State) : State :=
  let x := s.group g
  let last := if x.defined && r.working.isSome then x.selectedPort else none
  (s.modGroup g fun x => Group.fresh r x.unprot last x.guard true).deliver (.psf g) false

/-! ## Operator requests (R51 to R54) -/

/-- The answers of R51 to R54. -/
inductive RequestAnswer where
  | done | refused | badState
  deriving DecidableEq, Repr

/-- A LOCK stored (R52). -/
def State.requestLock (g : Fin 8) (s : State) : RequestAnswer × State :=
  (.done, s.modGroup g fun x => { x with operator := .lock })

/-- A FORCE judged (R52). -/
def State.requestForce (g : Fin 8) (s : State) : RequestAnswer × State :=
  if (s.group g).operator = .lock then (.refused, s)
  else (.done, s.modGroup g fun x => { x with operator := .force })

/-- What may outrank a MAN request when it is judged (R50, R53). -/
def Group.rivals (x : Group) : Nat :=
  max (max x.top.code.toNat x.operator.code.toNat) (max x.patchCode.toNat x.receivedWeight)

/-- A MAN-P judged (R53). -/
def State.requestManP (g : Fin 8) (s : State) : RequestAnswer × State :=
  if 8 < (s.group g).rivals then (.refused, s)
  else (.done, s.modGroup g fun x => { x with operator := .manP })

/-- A MAN-W judged (R53). -/
def State.requestManW (g : Fin 8) (s : State) : RequestAnswer × State :=
  if (s.group g).record.revertive then (.badState, s)
  else if 7 < (s.group g).rivals then (.refused, s)
  else (.done, s.modGroup g fun x => { x with operator := .manW })

/-- The member on an optional port has a patch window open. -/
def State.windowOn (s : State) (p : Option (Fin 8)) : Bool :=
  match p with
  | some p => (s.cable p).window.isSome
  | none => false

/-- REQUEST CLEAR (R54). -/
def State.requestClear (g : Fin 8) (s : State) : RequestAnswer × State :=
  (.done, s.modGroup g fun x =>
    { x with
      operator := .none
      markW := x.markW && s.windowOn (x.portOf .w)
      markP := x.markP && s.windowOn (x.portOf .p) })

end Sys2Proof.Machine
end

