-- ==== Sys2Proof/Machine/Formats.lean ====
section
/-! DEFINITION. The formats (Section 11): frame overhead, backplane frame, messages and their CRC, records, and the
object entries as they are read. -/

namespace Sys2Proof.Machine

open Sys2Proof

/-! ## Codes -/

/-- W is 0 and P is 1 (R200). -/
def memberCode (m : Member) : Nat :=
  match m with
  | .w => 0
  | .p => 1

/-- PAIR is 0 and SPARE is 1 (R200). -/
def Arch.code (a : Arch) : Nat :=
  match a with
  | .pair => 0
  | .spare => 1

/-- ONE-END is 0 and BOTH-ENDS is 1 (R200). -/
def Direction.code (d : Direction) : Nat :=
  match d with
  | .oneEnd => 0
  | .bothEnds => 1

/-- The loopback codes (R204). -/
def Loopback.code (l : Loopback) : Nat :=
  match l with
  | .normal => 0
  | .facility => 1
  | .terminal => 2

/-- The alignment codes (R204). -/
def Align.code (a : Align) : Nat :=
  match a with
  | .hunt => 0
  | .confirm => 1
  | .sync => 2

/-- The mode codes (R204). -/
def Mode.code (m : Mode) : Nat :=
  match m with
  | .off => 0
  | .report => 1
  | .auto => 2
  | .latch => 3

/-- The severity codes (R203). -/
def Severity.code (v : Severity) : Nat :=
  match v with
  | .crit => 0
  | .maj => 1
  | .min => 2
  | .note => 3

/-- The alarm state codes (R204). -/
def AlarmState.code (x : AlarmState) : Nat :=
  match x with
  | .idle => 0
  | .raising => 1
  | .active => 2
  | .clearing => 3
  | .latched => 4

/-- The timing state codes (R203). -/
def TimingState.code (x : TimingState) : Nat :=
  match x with
  | .freeRun => 0
  | .acquire => 1
  | .locked => 2
  | .holdover => 3

/-- The verdict codes (R204). -/
def Verdict.code (v : Verdict) : Nat :=
  match v with
  | .unverified => 0
  | .traceOk => 1
  | .verified => 2
  | .misconnected => 3
  | .looped => 4
  | .length => 5
  | .patching => 6

/-- The protocol state codes (R204). -/
def Protocol.code (x : Protocol) : Nat :=
  match x with
  | .idle => 0
  | .switching => 1
  | .steady => 2
  | .fallback => 3

/-- The restore request codes (R204). -/
def Restore.code (x : Restore) : Nat :=
  match x with
  | .none => 0
  | .wait => 6
  | .hold => 4

/-- The candidate state codes (R204). -/
def CandState.code (x : CandState) : Nat :=
  match x with
  | .disabled => 0
  | .failed => 1
  | .wait => 2
  | .available => 3

/-- The audit state codes (R204). -/
def AuditState.code (x : AuditState) : Nat :=
  match x with
  | .idle => 0
  | .queued => 1
  | .active => 2
  | .suspended => 3

/-- The transition codes of alarm records (R203). -/
def Transition.code (t : Transition) : Nat :=
  match t with
  | .raised => 0
  | .cleared => 1
  | .held => 2
  | .released => 3

/-- The cause codes of PATCH records (R203). -/
def PatchCause.code (c : PatchCause) : Nat :=
  match c with
  | .opened => 0
  | .openOverride => 1
  | .closed => 2
  | .expired => 3

/-- A byte from its value. -/
def byte (n : Nat) : Byte := BitVec.ofNat 8 n

/-! ## Frame overhead (R200) -/

/-- The two bytes of a switch signal (R200). -/
def SwitchSignal.bytes (v : SwitchSignal) : Byte × Byte :=
  (byte (16 * v.request.toNat + 8 * memberCode v.channel + 4 * bit v.bridged + 2 * v.arch.code + v.direction.code),
   byte v.group.toNat)

/-- The switch signal of two received bytes; the reserved bits are ignored (R199, R200). -/
def signalOf (b6 b7 : Byte) : SwitchSignal :=
  { request := (b6 >>> 4).setWidth 4
    channel := if b6.getLsbD 3 then .p else .w
    bridged := b6.getLsbD 2
    arch := if b6.getLsbD 1 then .spare else .pair
    direction := if b6.getLsbD 0 then .bothEnds else .oneEnd
    group := b7.setWidth 3 }

/-- The transmitted switch signal of group `g` (R66); after a group write its architecture and direction are those of
the new record at once (DESIGN CHOICE, log entry 37). -/
def Group.signal (g : Fin 8) (x : Group) : SwitchSignal :=
  { request := x.txRequest, channel := x.txChannel, bridged := x.txBridged, arch := x.record.arch,
    direction := x.record.direction, group := BitVec.ofNat 3 g.val }

/-- The fields of a frame's overhead (1.1). -/
structure Overhead where
  index : BitVec 4
  mreq : Bool
  mech : Bool
  attn : Bool
  trace : Byte
  parity : Byte
  quality : BitVec 4
  signal : Byte × Byte
  ta : BitVec 24
  channel : Byte × Byte
  deriving DecidableEq, Repr

/-- The 16 overhead bytes of a sent frame (R17, R200). -/
def Overhead.build (o : Overhead) : Vector Byte 16 :=
  #v[0x3D, 0xC2,
     byte (o.index.toNat + 16 * bit o.mreq + 32 * bit o.mech + 64 * bit o.attn), o.trace, o.parity,
     byte o.quality.toNat, o.signal.1, o.signal.2,
     (o.ta >>> 16).setWidth 8, (o.ta >>> 8).setWidth 8, o.ta.setWidth 8,
     o.channel.1, o.channel.2, 0, 0, 0]

/-- The 36 bytes of a slot, the first byte most significant. -/
def slotBytes (w : Slot) : List Byte := (List.range 36).map fun i => (w >>> (8 * (35 - i))).setWidth 8

/-- The 1,456 bytes of a shelf frame (R200). -/
def frameBytes (f : LineFrame) : List Byte := f.overhead.toList ++ f.payload.toList.flatMap slotBytes

/-- The 16 bits of a sent signal at bit `n` of frame `f`; behind its last byte the next frame's alignment word begins
(R17, R200). -/
def sentWord (f : LineFrame) (n : Nat) : BitVec 16 :=
  let bs := (frameBytes f ++ [0x3D#8, 0xC2#8]).drop (n / 8)
  let window : BitVec 24 := bs.getD 0 0 ++ bs.getD 1 0 ++ bs.getD 2 0
  (window >>> (8 - n % 8)).setWidth 16

/-- The alignment word of a frame (R200). -/
def frameWord (f : LineFrame) : BitVec 16 := f.overhead[0] ++ f.overhead[1]

/-- The overhead fields of a received frame; reserved bits and spare bytes are ignored (R199, R200). -/
def frameFields (f : LineFrame) : Overhead :=
  { index := f.overhead[2].setWidth 4, mreq := f.overhead[2].getLsbD 4, mech := f.overhead[2].getLsbD 5,
    attn := f.overhead[2].getLsbD 6, trace := f.overhead[3], parity := f.overhead[4],
    quality := f.overhead[5].setWidth 4, signal := (f.overhead[6], f.overhead[7]),
    ta := f.overhead[8] ++ f.overhead[9] ++ f.overhead[10], channel := (f.overhead[11], f.overhead[12]) }

/-- A frame of FF hex bytes, sent in facility loopback when the store has no frame (R20). -/
def frameOfOnes : LineFrame := { overhead := Vector.replicate 16 0xFF, payload := Vector.replicate 40 aisSlot }

/-! ## Backplane frame (R201) -/

/-- The 4,628 bytes of a backplane frame sent on port `b` (R27, R36, R201). -/
def BackplaneFrame.bytes (b : Fin 2) (f : BackplaneFrame) : List Byte :=
  [0x3D, 0xC2, byte (16 * b.val + f.index.toNat), 0] ++ f.slots.toList.flatMap slotBytes ++
    (List.range 16).map fun i => (f.flags >>> (8 * i)).setWidth 8

/-! ## Messages (R202) -/

/-- One bit of the CRC register's shift (R202). -/
def crcShift (r : BitVec 16) : BitVec 16 :=
  if r.getLsbD 15 then (r <<< 1) ^^^ 0x1021#16 else r <<< 1

/-- A byte entering the CRC register, most significant bit first (R202). -/
def crcByte (r : BitVec 16) (b : Byte) : BitVec 16 :=
  let x := r ^^^ (b.setWidth 16 <<< 8)
  crcShift (crcShift (crcShift (crcShift (crcShift (crcShift (crcShift (crcShift x)))))))

/-- The CRC of bytes (R187, R202). -/
def crc (bs : List Byte) : BitVec 16 := bs.foldl crcByte 0xFFFF#16

/-- The command opening byte (R202). -/
def commandOpening : Byte := 0xA5

/-- The reply opening byte (R202). -/
def replyOpening : Byte := 0x5A

/-- The fill byte (R202). -/
def fillByte : Byte := 0xFF

/-- A reply on the wire: opening byte, length, body and CRC (R191, R202). -/
def replyMessage (body : List Byte) : List Byte :=
  let c := crc (byte body.length :: body)
  replyOpening :: byte body.length :: body ++ [(c >>> 8).setWidth 8, c.setWidth 8]

/-! ## Records (R203) -/

/-- The marks of an audit result, coarse lowest (R203, R204). -/
def AuditResult.marks (x : AuditResult) : Nat :=
  bit x.coarse + 2 * bit x.assumed + 4 * bit x.implausible + 8 * bit x.unstable

/-- The transition, the origin code and the 24 bits of severity and value of a record (R203). -/
def Report.coded (r : Report) : Nat × Nat × Nat :=
  match r with
  | .alarm a t sev v => (t.code, a.index.val, 4194304 * sev.code + v.getD 4194303 % 4194304)
  | .switch g m c far => (4, 106 + g.val, c.toNat + 16 * memberCode m + 32 * bit far)
  | .refsel st k =>
    (4, 114, st.code + 16 * (match k with
      | some k => k.val
      | none => 15))
  | .audit p x =>
    (4, 115 + p.val, match x.delay with
      | some d => d % 1048576 + 1048576 * x.marks
      | none => 16777215)
  | .patch p c => (4, 123 + p.val, c.code)
  | .restart .cold => (4, 131, 0)
  | .restart .warm => (4, 131, 1)
  | .lost n => (4, 132, n)

/-- The 12 bytes of a record (R203). -/
def Record.bytes (x : Record) : List Byte :=
  let c := x.report.coded
  bytesOf 2 x.sequence ++ bytesOf 4 x.seconds ++ bytesOf 2 (8192 * c.1 + x.frame) ++ [byte c.2.1] ++ bytesOf 3 c.2.2

/-! ## Object entries (R204), absent values by R199 -/

/-- An optional number in one byte. -/
def optByte (v : Option Nat) : List Byte := optBytes 1 v

/-- The PORT entry of port `p` (R23, R24, R204). -/
def State.portEntry (s : State) (p : Fin 8) : List Byte :=
  let x := s.port p
  bytesOf 2 x.settings.xt ++ bytesOf 2 x.settings.dt ++ bytesOf 1 x.settings.dm ++
    [byte (x.settings.loopback.code + 4 * bit x.settings.txEnabled),
     byte (x.align.code + 4 * bit x.aligned + 8 * bit x.sd + 16 * bit (s.txDisable p)),
     flagByte [x.los, x.lof, x.exc, x.deg, x.slip]] ++
    bytesOf 2 x.lastSecond ++ bytesOf 4 x.total ++ bytesOf 2 x.slipCount

/-- An optional switch signal in the form of bytes 6 and 7 (R204). -/
def optSignal (v : Option SwitchSignal) : List Byte :=
  match v with
  | some x => [x.bytes.1, x.bytes.2]
  | none => [0xFF, 0xFF]

/-- The GROUP entry of group `g` (R46, R79, R204). -/
def State.groupEntry (s : State) (g : Fin 8) : List Byte :=
  let x := s.group g
  let r := x.record
  optByte (r.working.map Fin.val) ++ optByte ((x.portOf .p).map Fin.val) ++
    [byte (r.arch.code + 2 * r.direction.code + 4 * bit r.revertive + 8 * bit r.degrade), byte r.holdOff, byte r.wtr,
     flagByte [x.selector == .p, x.bridge, s.memberSf g .w, s.memberSd g .w, s.memberSf g .p, s.memberSd g .p],
     flagByte [x.sfW.after, x.sdW.after, x.sfP.after, x.sdP.after],
     byte x.operator.code.toNat, byte (bit x.markW + 2 * bit x.markP + 16 * x.patchCode.toNat), byte x.restore.code] ++
    optBytes 2 x.wtrCount ++ [byte x.top.code.toNat] ++ optSignal x.accepted ++ optSignal x.candidate ++
    [byte x.run, (x.signal g).bytes.1, byte x.protocol.code] ++ optBytes 2 x.confirm ++
    [flagByte [x.psf.isSome, x.psf == some .mismatch, x.unprot]] ++ bytesOf 2 x.agreement

/-- A MAP entry (R32, R204). -/
def MapEntry.bytes (x : MapEntry) : List Byte :=
  match x with
  | .unequipped => [0, 0, 0]
  | .mapped g s => [1, byte g.val, byte s.val]

/-- The 16 bytes of a trace. -/
def Trace.bytes (t : Trace) : List Byte := t.toList.map fun c => c.setWidth 8

/-- The CABLE record of a port (R102, R204). -/
def CableRecord.bytes (r : CableRecord) : List Byte :=
  Trace.bytes r.expected ++ Trace.bytes r.transmitted ++ [flagByte [r.check, r.dark]] ++ bytesOf 3 r.dmin ++
    bytesOf 3 r.dmax ++ signedBytes 2 r.ofs ++ optBytes 3 r.defaultTa ++ bytesOf 1 r.burst ++ bytesOf 1 r.period ++
    bytesOf 2 r.spreadLimit

/-- The outcome byte of an audit result in CABLE form (R204). -/
def outcomeByte (x : AuditResult) : Byte := byte (bit x.completed + 2 * x.marks)

/-- Where port `p` stands in the audit queue, from 1, and its entry (R104). -/
def State.queuePlace (s : State) (p : Fin 8) : Option (Nat × AuditEntry) :=
  (s.csv.audits.zipIdx 1).findSome? fun e => if e.1.port = p then some (e.2, e.1) else none

/-- The CABLE status of port `p` (R104, R204); behind the FF hex of an absent accepted trace stand 15 zero bytes (DESIGN
CHOICE, log entry 16). -/
def State.cableStatus (s : State) (p : Fin 8) : List Byte :=
  let c := s.cable p
  let place := if s.auditState p = .queued then s.queuePlace p else none
  let audit : Nat :=
    match place with
    | some (n, e) => (s.auditState p).code + 4 * bit e.adHoc + 16 * n
    | none => (s.auditState p).code
  let last : List Byte :=
    match c.lastResult with
    | some x => [outcomeByte x, byte (16 * x.present + x.burst)] ++ optBytes 3 x.delay ++ optBytes 3 x.spread
    | none => List.replicate 8 0xFF
  [byte c.verdict.code] ++ optByte (c.pendingVerdict.map Verdict.code) ++
    (match c.accepted with
     | some t => Trace.bytes t
     | none => 0xFF :: List.replicate 15 0) ++
    [byte c.traceRun, byte audit, byte c.failures] ++ last ++
    optBytes 2 (c.timer.map PeriodicTimer.count) ++ optBytes 2 (c.timer.map PeriodicTimer.target) ++
    optBytes 2 (c.window.map PatchWindow.remaining) ++
    [flagByte [c.window.any PatchWindow.override, c.pendingEcho.isSome]]

/-- The trace capture of a port (R106, R204). -/
def Cable.captureBytes (c : Cable) : List Byte :=
  byte c.captures.length :: (c.captures.flatten ++ List.replicate (48 - c.captures.flatten.length) 0)

/-- The REFERENCE entry of candidate `k` (R132, R204). -/
def State.referenceEntry (s : State) (k : Fin 10) : List Byte :=
  let c := s.cand k
  let accepted := (candPort k).bind fun p => (s.tmu.quality[p]).accepted
  let los := if k.val < 8 then false else (s.tmu.stations[(k.val - 8) % 2]'(Nat.mod_lt _ (by decide))).los
  [byte (bit c.entry.enabled), byte c.entry.priority, byte (bit c.entry.fixedSource), byte c.entry.fixedQ.toNat,
   byte (c.state.code + 16 * bit (c.entry.enabled && s.verdictCause k) + 32 * bit c.eligible +
     64 * bit (s.tmu.selected == some k))] ++
    optBytes 2 c.holdOff ++ optBytes 2 c.wtr ++ optByte (accepted.map BitVec.toNat) ++ [byte (s.effectiveQ k).toNat] ++
    optBytes 3 (c.lastR.map fun r => r.1.toNat + 8388608 * bit r.2) ++ [byte c.drifts.length] ++
    optSigned 3 c.estimate ++ [byte (16 * c.missing + c.good), flagByte [c.ref, los]]

/-- The mode code and the forced candidate of a timing mode (R204). -/
def TimingMode.bytes (m : TimingMode) : Byte × Byte :=
  match m with
  | .auto => (0, 0xFF)
  | .forced k => (1, byte k.val)
  | .free => (2, 0xFF)
  | .hold => (3, 0xFF)

/-- The TIMING entry (R131, R132, R204). -/
def State.timingEntry (s : State) : List Byte :=
  let x := s.tmu.settings
  let t := s.tmu
  [byte x.kp, byte x.ki] ++ bytesOf 2 x.threshold ++
    [byte x.worstQ.toNat, x.mode.bytes.1, x.mode.bytes.2, byte x.holdOff, byte x.wtr, byte t.state.code] ++
    optByte (t.selected.map Fin.val) ++ optBytes 3 (t.anchor.map Int.toNat) ++ optSigned 3 t.lastError ++
    signedBytes 2 t.integral ++ signedBytes 2 t.fw ++ bytesOf 2 t.acc.toNat ++ [byte t.lockCount, byte t.unlockCount] ++
    bytesOf 2 t.frameCount ++ [byte s.index.toNat] ++ bytesOf 4 t.seconds

/-- A PROFILE entry (R204). -/
def ProfileEntry.value (e : ProfileEntry) : Nat := e.mode.code + 4 * e.severity.code

/-- The ALARM entry of cell `a` (R170, R204); bits 5 and 4 are 0 while no severity is held (DESIGN CHOICE, log entry
16). -/
def State.alarmEntry (s : State) (a : AlarmId) : List Byte :=
  let x := s.alarm a
  let inUse := if s.sourcePatched a.source then 4 else (s.alu.assigned[a.source]).val
  let held : Nat :=
    match x.held with
    | some v => 16 * v.code + 64
    | none => 0
  [byte (bit x.present + 2 * bit x.flag + 4 * x.state.code)] ++ optBytes 2 x.soak ++
    [byte inUse, byte ((s.entryOf a).value + held)] ++ optBytes 3 x.value

/-- ALARM entry 106 (R170, R204); the press count's byte above 255 is a free value (log entry 15). -/
def State.relayEntry (s : State) : List Byte :=
  let r := s.alu.relays
  let n := s.alu.pressCount
  [flagByte [r.crit, r.maj, r.min, r.aud, s.inputs.frame.aco], if n ≤ 255 then byte n else Config.pressCountByte n] ++
    List.replicate 6 0

/-- MEASUREMENT entry 0 (R99, R100, R204). -/
def State.lastAuditEntry (s : State) : List Byte :=
  match s.imu.lastAudit with
  | none => List.replicate 10 0xFF ++ optSigned 2 none ++ List.replicate 5 0xFF
  | some (b, x) =>
    [outcomeByte x, byte b.port.val, byte x.burst, byte x.present] ++ optBytes 3 x.delay ++ optBytes 3 x.spread ++
      signedBytes 2 b.ofs ++ optBytes 3 b.defaultTa ++ bytesOf 2 b.spreadLimit

/-- A sample slot entry of MEASUREMENT (R100, R204); `none` is a slot that reads as absent. -/
def slotEntry (x : Option SampleSlot) : List Byte :=
  match x with
  | some (.present d) =>
    [byte (2 + 4 * bit d.coarse + 8 * bit d.assumed + 16 * bit d.implausible)] ++ signedBytes 3 d.rt ++
      signedBytes 3 d.ta ++ bytesOf 3 d.delay ++ List.replicate 7 0
  | some .missing => 1 :: (List.replicate 9 0xFF ++ List.replicate 7 0)
  | some .pending => 0 :: (List.replicate 9 0xFF ++ List.replicate 7 0)
  | some (.outstanding _ _ _) => 0 :: (List.replicate 9 0xFF ++ List.replicate 7 0)
  | none => 0 :: (List.replicate 9 0xFF ++ List.replicate 7 0)

/-- The vernier state codes (R204). -/
def VernierState.code (x : VernierState) : Nat :=
  match x with
  | .free => 0
  | .busy _ => 1
  | .calibrating => 2
  | .calFault => 3

/-- A vernier entry of MEASUREMENT (R100, R204). -/
def Vernier.entry (x : Vernier) : List Byte :=
  [byte (x.state.code + 16 * bit x.faulted)] ++ optByte x.cal ++ optByte x.lastResult ++ List.replicate 14 0

/-- MEASUREMENT entry 13 (R100, R204). While a round waits for a BUSY vernier the turn is that vernier's, though it has
not begun (DESIGN CHOICE, log entry 16). -/
def State.unitMeasurement (s : State) : List Byte :=
  let turn : Nat :=
    match s.imu.round with
    | some r => 1 + 2 * r.turn.val
    | none => 0
  bytesOf 3 s.timeCounter.toNat ++ bytesOf 3 s.frameMark.toNat ++ bytesOf 3 s.multiframeMark.toNat ++
    [byte (turn + 8 * bit s.imu.roundPending)] ++ bytesOf 2 s.imu.coarseCount ++
    [flagByte [s.imu.calDefect, s.reserved]] ++ List.replicate 4 0

/-- A MEASUREMENT entry (R100). -/
def State.measurementEntry (s : State) (n : Nat) : List Byte :=
  if n = 0 then s.lastAuditEntry
  else if n ≤ 8 then slotEntry (s.imu.lastAudit.bind fun a => a.1.slots[n - 1]?)
  else if n ≤ 12 then (s.vernier ⟨(n - 9) % 4, Nat.mod_lt _ (by decide)⟩).entry
  else s.unitMeasurement

/-- The news flags in summary form (R202, R204). -/
def News.value (n : News) : Byte := flagByte [n.newRecord, n.traffic, n.timing, n.measure, n.fault]

/-- The UNIT entry (R180, R197, R204); the reply to this READ is counted among the queued ones. -/
def State.unitEntry (s : State) : List Byte :=
  let m := s.mci
  [byte m.group.val] ++ optByte (m.pendingNumber.map Fin.val) ++
    [flagByte [m.pendingRecord.isSome], byte m.straps.station.toNat, byte (m.straps.mg.toNat + 4 * bit m.straps.defmap)] ++
    optByte (m.source.map Fin.val) ++ [0, 0, byte (m.replies.length + 1)] ++ bytesOf 2 m.badCrc ++
    bytesOf 2 m.dropped ++ bytesOf 2 m.foreign ++ optByte m.mstn ++
    [flagByte [m.mstn.isSome, m.mlost, s.qovf], s.queue.news.value, byte s.queue.records.length] ++
    bytesOf 2 s.queue.sequence ++ bytesOf 2 s.queue.lost ++ [0]

end Sys2Proof.Machine
end

