-- ==== Sys2Proof/Machine/Restart.lean ====
section
/-! DEFINITION. The two restarts of every block, and what happens when a reply has been sent: the deferred change and
the pending restart (Sections 10.6, 10.7, 10.9 and the restart rules of each section). -/

namespace Sys2Proof.Machine

open Sys2Proof

/-! ## Cold restart (R25, R39, R64, R80, R101, R126, R150, R171, R182, R198) -/

/-- The owners deliver their presence after a cold restart (R25, R135, R150, R171). -/
def State.deliverCold (s : State) : State :=
  let s := overAll (fun p t => (t.deliver (.port p .los) (t.port p).los).deliver (.port p .lof) (t.port p).lof) s
  let s := overAll (fun i t => t.deliver (.stationLos i) (t.tmu.stations[i]).los) s
  s.deliver .free true

/-- A cold restart: the straps are sampled and every block takes its values (R198); the queue of commands and the
levels of the pins stay. -/
def State.coldRestart (s : State) : State :=
  ((State.blank s.pending s.inputs (s.ports.map Port.sd)).restartQueue .cold).deliverCold

/-! ## Warm restart (R26, R40, R65, R101, R127, R151, R172, R182, R198) -/

/-- The two counts of a port that a warm restart sets to 0 (R26). -/
def Port.warm (x : Port) : Port := { x with total := 0, slipCount := 0 }

/-- The Management Channel Interface at a warm restart (R198). -/
def Mci.warm (m : Mci) : Mci := { m with badCrc := 0, dropped := 0, foreign := 0, restart := none }

/-- A warm restart of every block. -/
def State.warmRestart (s : State) : State :=
  let s : State := { s with ports := s.ports.map Port.warm, mci := s.mci.warm }
  s.warmCable.warmMeasurement.warmAlarms.restartQueue .warm

/-- A restart of the given kind (R196). -/
def State.restart (kind : RestartKind) (s : State) : State :=
  match kind with
  | .cold => s.coldRestart
  | .warm => s.warmRestart

/-! ## The deferred change (R195) -/

/-- A management group record stored at the local frame start that ends the reply's last frame (R186, R195); a swap of
working and protection port counts as a change of the members (DESIGN CHOICE, log entry 42). -/
def State.applyRecord (r : GroupRecord) (s : State) : State :=
  let g := s.mci.group
  let before := (s.group g).members
  let s := s.resetGroup g r
  if (s.group g).members = before then s else s.discardMessage.chooseSource

/-- The pending change applied (R186, R195). -/
def State.applyDeferred (s : State) : State :=
  let record := s.mci.pendingRecord
  let number := s.mci.pendingNumber
  let s : State := { s with mci := { s.mci with pendingRecord := none, pendingNumber := none } }
  let s := match record with
    | some r => s.applyRecord r
    | none => s
  match number with
  | some g => State.chooseSource (State.discardMessage { s with mci := { s.mci with group := g } })
  | none => s

/-! ## Sending replies (R191) -/

/-- The last byte of the reply being sent has left (R191). -/
def State.replyDone (s : State) : Bool :=
  match s.mci.sending, s.mci.replies with
  | some n, r :: _ => decide (r.bytes.length ≤ n)
  | _, _ => false

/-- What waits for the reply that is leaving (R195, R196). -/
def State.replyEffect (s : State) : ReplyEffect :=
  match s.mci.replies with
  | r :: _ => r.effect
  | [] => .plain

/-- The reply leaves the queue, before what waits for it acts (R191). -/
def State.dropReply (s : State) : State :=
  { s with mci := { s.mci with replies := s.mci.replies.tail, sending := none } }

/-- A restart that was pending acts (R196). -/
def State.actRestart (s : State) : State :=
  match s.mci.restart with
  | some k => s.restart k
  | none => s

/-- A reply whose last byte has been sent leaves the queue, and what waits for it acts (R191, R195, R196). -/
def State.replySentStep (s : State) : State :=
  if s.replyDone then
    match s.replyEffect with
    | .plain => s.dropReply
    | .deferred => s.dropReply.applyDeferred
    | .restart => s.dropReply.actRestart
  else s

/-- A reply begins at a local frame start at which no earlier one is being sent (R191). -/
def State.replyBeginStep (s : State) : State :=
  if s.mci.sending.isNone && !s.mci.replies.isEmpty then { s with mci := { s.mci with sending := some 0 } } else s

/-- The two management bytes of the frame that begins (R191). -/
def State.sendBytes (s : State) : State :=
  match s.mci.sending, s.mci.replies with
  | some n, r :: _ =>
    { s with mci := { s.mci with
        out := (r.bytes.getD n fillByte, r.bytes.getD (n + 1) fillByte), sending := some (n + 2) } }
  | _, _ => { s with mci := { s.mci with out := (fillByte, fillByte) } }

end Sys2Proof.Machine
end

