-- ==== Sys2Proof/Machine/Objects.lean ====
section
/-! DEFINITION. The objects of the management channel: which there are, their entries as read, and the owners' rules
for a written entry (Sections 10.5 and 11, R193, R194). -/

namespace Sys2Proof.Machine

open Sys2Proof

/-- The result codes of a reply (R202). -/
inductive Result where
  | done | clamped | refused | badObject | badIndex | badValue | badState
  deriving DecidableEq, Repr

/-- The code of a result (R202). -/
def Result.code (r : Result) : Nat :=
  match r with
  | .done => 0
  | .clamped => 1
  | .refused => 2
  | .badObject => 3
  | .badIndex => 4
  | .badValue => 5
  | .badState => 6

/-- DONE, or DONE-CLAMPED where something was clamped. -/
def doneOr (clamped : Bool) : Result := if clamped then .clamped else .done

/-- The objects and their parts (R193, R202). -/
inductive Object where
  | port | group | map | cable | cableStatus | cableCapture | reference | timing | profile | assign | alarm
  | measurement | unit
  deriving DecidableEq, Repr

/-- The object that an object byte names (R202); a byte with a reserved bit set names none, and is BAD-OBJECT (DESIGN
CHOICE, log entry 45). -/
def objectOf (b : Byte) : Option Object :=
  match b.toNat with
  | 0 => some .port
  | 1 => some .group
  | 2 => some .map
  | 3 => some .cable
  | 4 => some .reference
  | 5 => some .timing
  | 6 => some .profile
  | 7 => some .assign
  | 8 => some .alarm
  | 9 => some .measurement
  | 10 => some .unit
  | 19 => some .cableStatus
  | 35 => some .cableCapture
  | _ => none

/-- The number of entries of an object (R193). -/
def Object.entries (o : Object) : Nat :=
  match o with
  | .port => 8
  | .group => 8
  | .map => 256
  | .cable => 8
  | .cableStatus => 8
  | .cableCapture => 8
  | .reference => 10
  | .timing => 1
  | .profile => 72
  | .assign => 19
  | .alarm => 107
  | .measurement => 14
  | .unit => 1

/-- The read entry size of an object (R204). -/
def Object.readSize (o : Object) : Nat :=
  match o with
  | .port => 16
  | .group => 25
  | .map => 3
  | .cable => 48
  | .cableStatus => 36
  | .cableCapture => 49
  | .reference => 20
  | .timing => 32
  | .profile => 1
  | .assign => 1
  | .alarm => 8
  | .measurement => 17
  | .unit => 24

/-- The write entry size of an object that has a write entry (R194, R204). -/
def Object.writeSize (o : Object) : Option Nat :=
  match o with
  | .port => some 6
  | .group => some 5
  | .map => some 3
  | .cable => some 48
  | .cableStatus => none
  | .cableCapture => none
  | .reference => some 4
  | .timing => some 9
  | .profile => some 1
  | .assign => some 1
  | .alarm => none
  | .measurement => none
  | .unit => some 24

/-- The group, map and unit objects, whose writes a pending change refuses (R192). -/
def Object.guarded (o : Object) : Bool :=
  match o with
  | .port => false
  | .group => true
  | .map => true
  | .cable => false
  | .cableStatus => false
  | .cableCapture => false
  | .reference => false
  | .timing => false
  | .profile => false
  | .assign => false
  | .alarm => false
  | .measurement => false
  | .unit => true

/-- A number taken as an index of a table of eight. -/
def eight (n : Nat) : Fin 8 := ⟨n % 8, Nat.mod_lt _ (by decide)⟩

/-- A number taken as a candidate. -/
def ten (n : Nat) : Fin 10 := ⟨n % 10, Nat.mod_lt _ (by decide)⟩

/-- Entry `i` of an object as a READ returns it (R193, R204). -/
def State.entry (s : State) (o : Object) (i : Nat) : List Byte :=
  match o with
  | .port => s.portEntry (eight i)
  | .group => s.groupEntry (eight i)
  | .map => (s.ssw.storedMap[i % 256]'(Nat.mod_lt _ (by decide))).bytes
  | .cable => (s.cable (eight i)).record.bytes
  | .cableStatus => s.cableStatus (eight i)
  | .cableCapture => (s.cable (eight i)).captureBytes
  | .reference => s.referenceEntry (ten i)
  | .timing => s.timingEntry
  | .profile => [byte (s.alu.profiles[i % 72]'(Nat.mod_lt _ (by decide))).value]
  | .assign => [byte (s.alu.assigned[i % 19]'(Nat.mod_lt _ (by decide))).val]
  | .alarm => if h : i < 106 then s.alarmEntry (alarmOf ⟨i, h⟩) else s.relayEntry
  | .measurement => s.measurementEntry i
  | .unit => s.unitEntry

/-! ## Written entries -/

/-- What an owner's rule makes of a written entry (R194): refused, or applied with a note of any clamp. -/
inductive Written where
  | refused (r : Result)
  | applied (clamped : Bool) (s : State)
  deriving DecidableEq, Repr

/-- A number taken into a range. -/
def clampNat (n low high : Nat) : Nat := if n < low then low else if high < n then high else n

/-- Byte `i` of an entry as a number. -/
def numAt (e : List Byte) (i : Nat) : Nat := (e.getD i 0).toNat

/-- Bytes `i` and on of an entry, `n` of them, as a number. -/
def fieldAt (e : List Byte) (i n : Nat) : Nat := valueOf ((e.drop i).take n)

/-! ### PORT (R23) -/

/-- The loopback of a control code (R204). -/
def loopbackOf (n : Nat) : Loopback := if n = 1 then .facility else if n = 2 then .terminal else .normal

/-- A written PORT entry (R23). -/
def State.writePortEntry (p : Fin 8) (e : List Byte) (s : State) : Written :=
  let c := numAt e 5
  if 8 ≤ c ∨ c % 4 = 3 then .refused .badValue
  else
    let xt := clampNat (fieldAt e 0 2) 1 8000
    let dt := clampNat (fieldAt e 2 2) 1 8000
    let dm := clampNat (numAt e 4) 2 10
    let x : PortSettings := { xt := xt, dt := dt, dm := dm, loopback := loopbackOf (c % 4), txEnabled := decide (4 ≤ c) }
    .applied (xt != fieldAt e 0 2 || dt != fieldAt e 2 2 || dm != numAt e 4)
      (s.modPort p fun y => { y with settings := x })

/-! ### GROUP (R43 to R45, R195) -/

/-- A written port number: absent is FF hex (R199). -/
def portOfByte (n : Nat) : Option (Fin 8) := if h : n < 8 then some ⟨n, h⟩ else none

/-- The record of a written GROUP entry, clamped (R43). -/
def groupRecordOf (e : List Byte) : GroupRecord :=
  let o := e.getD 2 0
  { working := portOfByte (numAt e 0)
    protection := portOfByte (numAt e 1)
    arch := if o.getLsbD 0 then .spare else .pair
    direction := if o.getLsbD 0 || o.getLsbD 1 then .bothEnds else .oneEnd
    revertive := o.getLsbD 2
    holdOff := clampNat (numAt e 3) 0 100
    wtr := clampNat (numAt e 4) 1 120
    degrade := o.getLsbD 3 }

/-- A written GROUP entry has a field that R43 clamps. -/
def groupClamped (e : List Byte) : Bool :=
  let o := e.getD 2 0
  decide (100 < numAt e 3) || decide (numAt e 4 < 1) || decide (120 < numAt e 4) || (o.getLsbD 0 && !o.getLsbD 1)

/-- A port is a member of a defined group other than `g`, in the table or in the pending record (R43, R195). -/
def State.takenBy (s : State) (g : Fin 8) (p : Fin 8) : Bool :=
  (List.finRange 8).any fun h =>
    h != g && ((s.group h).hasMember p ||
      (h == s.mci.group && s.mci.pendingRecord.any fun r => r.working == some p ||
        (r.working.isSome && r.protection == some p)))

/-- A port byte of a GROUP entry that is neither a port number nor absent. -/
def badPort (n : Nat) : Bool := decide (8 ≤ n) && n != 255

/-- The cases in which R43 refuses a record. -/
def State.badGroupRecord (s : State) (g : Fin 8) (e : List Byte) : Bool :=
  let r := groupRecordOf e
  badPort (numAt e 0) || badPort (numAt e 1) || decide (16 ≤ numAt e 2) ||
    (r.working.isSome && r.working == r.protection) || (r.working.isNone && r.protection.isSome) ||
    (r.working.toList ++ r.protection.toList).any (s.takenBy g)

/-- An entry of the stored map names group `g`. -/
def State.mapped (s : State) (g : Fin 8) : Bool :=
  s.ssw.storedMap.toList.any fun x =>
    match x with
    | .mapped h _ => h == g
    | .unequipped => false

/-- The cases in which R44 refuses a record that changes something. -/
def State.groupBusy (s : State) (g : Fin 8) (r : GroupRecord) : Bool :=
  let x := s.group g
  (x.defined && r.working.isNone && s.mapped g) || x.operator != .none || x.patchRequest.isSome || x.confirm.isSome ||
    (x.members ++ r.working.toList ++ r.protection.toList).any fun p => (s.cable p).window.isSome

/-- A written GROUP entry (R42 to R45, R195). -/
def State.writeGroupEntry (g : Fin 8) (e : List Byte) (s : State) : Written :=
  let r := groupRecordOf e
  if s.badGroupRecord g e then .refused .badValue
  else if r = (s.group g).record then .applied (groupClamped e) s
  else if s.groupBusy g r then .refused .badState
  else if g = s.mci.group then
    .applied (groupClamped e) { s with mci := { s.mci with pendingRecord := some r } }
  else .applied (groupClamped e) (s.resetGroup g r)

/-! ### MAP (R30, R31) -/

/-- Another entry of the stored map than `i` holds the same group and line slot (R30). -/
def State.joinedElsewhere (s : State) (i : Fin 256) (x : MapEntry) : Bool :=
  (List.finRange 256).any fun n => n != i && s.ssw.storedMap[n] == x

/-- A written MAP entry (R30, R31). -/
def State.writeMapEntry (i : Fin 256) (e : List Byte) (s : State) : Written :=
  let store (x : MapEntry) : State := { s with ssw := { s.ssw with storedMap := s.ssw.storedMap.set i x } }
  if numAt e 0 = 0 then .applied false (store .unequipped)
  else if numAt e 0 = 1 then
    if h : numAt e 1 < 8 ∧ numAt e 2 < 40 then
      let x : MapEntry := .mapped ⟨numAt e 1, h.1⟩ ⟨numAt e 2, h.2⟩
      if (s.group ⟨numAt e 1, h.1⟩).defined && !s.joinedElsewhere i x then .applied false (store x)
      else .refused .badValue
    else .refused .badValue
  else .refused .badValue

/-! ### CABLE (R103) -/

/-- A burst rounded down to a power of two, 1 to 8 (R103). -/
def roundBurst (n : Nat) : Nat := if 8 ≤ n then 8 else if 4 ≤ n then 4 else if 2 ≤ n then 2 else 1

/-- The trace of 16 written characters. -/
def traceAt (e : List Byte) (i : Nat) : Trace := Vector.ofFn fun k => (e.getD (i + k.val) 0).setWidth 7

/-- The record of a written CABLE entry, clamped and rounded (R103). -/
def cableRecordOf (e : List Byte) : CableRecord :=
  let ta := fieldAt e 41 3
  { expected := traceAt e 0
    check := (e.getD 32 0).getLsbD 0
    transmitted := traceAt e 16
    dmin := clampNat (fieldAt e 33 3) 0 1048575
    dmax := clampNat (fieldAt e 36 3) 0 1048575
    ofs := signedOf ((e.drop 39).take 2)
    defaultTa := if ta = 16777215 then none else some (clampNat ta 0 8388607)
    burst := roundBurst (numAt e 44)
    period := numAt e 45
    spreadLimit := fieldAt e 46 2
    dark := (e.getD 32 0).getLsbD 1 }

/-- A written CABLE entry has a field that R103 clamps or rounds. -/
def cableClamped (e : List Byte) : Bool :=
  let ta := fieldAt e 41 3
  decide (1048575 < fieldAt e 33 3) || decide (1048575 < fieldAt e 36 3) ||
    (ta != 16777215 && decide (8388607 < ta)) || roundBurst (numAt e 44) != numAt e 44

/-- The cases in which R103 refuses a record. -/
def badCableRecord (e : List Byte) : Bool :=
  let r := cableRecordOf e
  (e.take 32).any (fun c => c.getLsbD 7) || decide (4 ≤ numAt e 32) || (decide (0 < r.dmax) && decide (r.dmax < r.dmin))

/-- The effect of a changed Dmin, Dmax or spread limit (R111). -/
def State.rejudge (p : Fin 8) (s : State) : State :=
  let c := s.cable p
  if c.verdict = .traceOk ∧ c.record.dmax = 0 then s.setVerdict p .verified
  else if c.verdict.measurable then s.requestAudit p
  else s

/-- A CABLE record stored, with the effects of its changed fields (R103, R108, R111, R117). -/
def State.storeCable (p : Fin 8) (r : CableRecord) (s : State) : State :=
  let old := (s.cable p).record
  let s := s.modCable p fun c => { c with record := r }
  let s :=
    if r.expected ≠ old.expected ∨ r.check ≠ old.check ∨ r.transmitted ≠ old.transmitted then s.compareTrace p else s
  let s := if r.dmin ≠ old.dmin ∨ r.dmax ≠ old.dmax ∨ r.spreadLimit ≠ old.spreadLimit then s.rejudge p else s
  if r.period ≠ old.period then s.startTimer p else s

/-- A written CABLE entry (R103). -/
def State.writeCableEntry (p : Fin 8) (e : List Byte) (s : State) : Written :=
  if badCableRecord e then .refused .badValue else .applied (cableClamped e) (s.storeCable p (cableRecordOf e))

/-! ### REFERENCE (R130) -/

/-- The entry of a written REFERENCE entry of candidate `k`, clamped (R130). -/
def refEntryOf (k : Fin 10) (e : List Byte) : RefEntry :=
  { enabled := numAt e 0 == 1
    priority := clampNat (numAt e 1) 1 10
    fixedSource := decide (8 ≤ k.val) || numAt e 2 == 1
    fixedQ := BitVec.ofNat 4 (clampNat (numAt e 3) 0 15) }

/-- A written REFERENCE entry has a field that R130 clamps. -/
def refClamped (k : Fin 10) (e : List Byte) : Bool :=
  decide (numAt e 1 < 1) || decide (10 < numAt e 1) || decide (15 < numAt e 3) ||
    (decide (8 ≤ k.val) && numAt e 2 == 0)

/-- A written REFERENCE entry (R130, R139). -/
def State.writeReferenceEntry (k : Fin 10) (e : List Byte) (s : State) : Written :=
  if 1 < numAt e 0 ∨ 1 < numAt e 2 then .refused .badValue
  else
    let x := refEntryOf k e
    let was := (s.cand k).entry.enabled
    let t := s.modCand k fun c => { c with entry := x }
    .applied (refClamped k e)
      (if x.enabled ∧ was = false then t.enableCand k
       else if x.enabled = false ∧ was then t.disableCand k
       else t)

/-! ### TIMING (R131) -/

/-- The mode of a written TIMING entry; absent where R131 refuses it. -/
def timingModeOf (mode k : Nat) : Option TimingMode :=
  if mode = 0 then some .auto
  else if mode = 1 then (if h : k < 10 then some (.forced ⟨k, h⟩) else none)
  else if mode = 2 then some .free
  else if mode = 3 then some .hold
  else none

/-- A written TIMING entry (R131). -/
def State.writeTimingEntry (e : List Byte) (s : State) : Written :=
  match timingModeOf (numAt e 5) (numAt e 6) with
  | none => .refused .badValue
  | some m =>
    let x : TimingSettings :=
      { kp := clampNat (numAt e 0) 0 15, ki := clampNat (numAt e 1) 0 15
        threshold := clampNat (fieldAt e 2 2) 1 65535
        worstQ := BitVec.ofNat 4 (clampNat (numAt e 4) 0 15)
        mode := m, holdOff := clampNat (numAt e 7) 0 20, wtr := clampNat (numAt e 8) 0 12 }
    .applied
      (decide (15 < numAt e 0) || decide (15 < numAt e 1) || decide (fieldAt e 2 2 < 1) || decide (15 < numAt e 4) ||
        decide (20 < numAt e 7) || decide (12 < numAt e 8))
      { s with tmu := { s.tmu with settings := x } }

/-! ### PROFILE and ASSIGN (R154, R155) -/

/-- The mode of a two-bit code (R204). -/
def modeOf (n : Nat) : Mode := if n = 0 then .off else if n = 1 then .report else if n = 2 then .auto else .latch

/-- The severity of a two-bit code (R203). -/
def severityOf (n : Nat) : Severity := if n = 0 then .crit else if n = 1 then .maj else if n = 2 then .min else .note

/-- A written PROFILE entry (R154, R166). -/
def State.writeProfileEntry (i : Fin 72) (e : List Byte) (s : State) : Written :=
  let n := numAt e 0
  if 16 ≤ n then .refused .badValue
  else
    let x : ProfileEntry := { mode := modeOf (n % 4), severity := severityOf (n / 4 % 4) }
    .applied false (s.reprofile fun t => { t with alu := { t.alu with profiles := t.alu.profiles.set i x } })

/-- A written ASSIGN entry (R155, R166). -/
def State.writeAssignEntry (i : Fin 19) (e : List Byte) (s : State) : Written :=
  if h : numAt e 0 < 4 then
    .applied false (s.reprofile fun t =>
      { t with alu := { t.alu with assigned := t.alu.assigned.set i ⟨numAt e 0, h⟩ } })
  else .refused .badValue

/-! ### UNIT (R197) -/

/-- A written UNIT entry (R195, R197); the number in use is DONE also while its group is undefined (DESIGN CHOICE, log
entry 42). -/
def State.writeUnitEntry (e : List Byte) (s : State) : Written :=
  if h : numAt e 0 < 8 then
    let g : Fin 8 := ⟨numAt e 0, h⟩
    if g = s.mci.group then .applied false s
    else if (s.group g).defined then .applied false { s with mci := { s.mci with pendingNumber := some g } }
    else .refused .badState
  else .refused .badValue

/-- A written entry of an object, judged by its owner's rule (R194). -/
def State.writeEntry (o : Object) (i : Nat) (e : List Byte) (s : State) : Written :=
  match o with
  | .port => s.writePortEntry (eight i) e
  | .group => s.writeGroupEntry (eight i) e
  | .map => s.writeMapEntry ⟨i % 256, Nat.mod_lt _ (by decide)⟩ e
  | .cable => s.writeCableEntry (eight i) e
  | .reference => s.writeReferenceEntry (ten i) e
  | .timing => s.writeTimingEntry e
  | .profile => s.writeProfileEntry ⟨i % 72, Nat.mod_lt _ (by decide)⟩ e
  | .assign => s.writeAssignEntry ⟨i % 19, Nat.mod_lt _ (by decide)⟩ e
  | .unit => s.writeUnitEntry e
  | .cableStatus => .refused .badObject
  | .cableCapture => .refused .badObject
  | .alarm => .refused .badObject
  | .measurement => .refused .badObject

/-- Entries applied in index order until one is refused (R31, R42, R103, R194). -/
def writeEntries (o : Object) (i : Nat) (es : List (List Byte)) (clamped : Bool) (s : State) :
    Result × Option Nat × State :=
  match es with
  | [] => (doneOr clamped, none, s)
  | e :: rest =>
    match s.writeEntry o i e with
    | .refused r => (r, some i, s)
    | .applied c t => writeEntries o (i + 1) rest (clamped || c) t

/-- A list cut into pieces of `n`. -/
def chunks (fuel n : Nat) (bs : List Byte) : List (List Byte) :=
  match fuel with
  | 0 => []
  | k + 1 => if bs.isEmpty then [] else bs.take n :: chunks k n (bs.drop n)

end Sys2Proof.Machine
end

