-- ==== Sys2Proof/Machine/Channel.lean ====
section
/-! DEFINITION. The Management Channel Interface (Section 10): the commands, the taking of a command and its reply, and
the framing and judging of received bytes. -/

namespace Sys2Proof.Machine

open Sys2Proof

/-- What the execution of a command answers: result, data, and what waits for the reply (R190, R195, R196). -/
structure Answer where
  result : Result
  data : List Byte
  effect : ReplyEffect
  deriving DecidableEq, Repr

/-- An answer that carries no data. -/
def Answer.plain (r : Result) : Answer := { result := r, data := [], effect := .plain }

/-! ## READ (R193) -/

/-- The bytes of a reply body left for entries (R202). -/
def replyRoom : Nat := 54

/-- The count of entries that a READ returns (R193). -/
def fittedCount (o : Object) (count : Nat) : Nat := min (max count 1) (replyRoom / o.readSize)

/-- The news flags cleared by a READ of UNIT (R180). -/
def State.clearNews (s : State) : State := s.setNews fun _ => .clear

/-- READ (R180, R193). -/
def State.doRead (o : Object) (first count : Nat) (s : State) : Answer × State :=
  if o.entries ≤ first ∨ o.entries < first + count then (.plain .badIndex, s)
  else
    let n := fittedCount o count
    let data := byte n :: ((List.range n).flatMap fun i => s.entry o (first + i))
    ({ result := doneOr (n != count), data := data, effect := .plain }, if o = .unit then s.clearNews else s)

/-! ## WRITE (R194, R195) -/

/-- The refused index of a WRITE reply, FFFF hex for none (R202). -/
def refusedIndex (i : Option Nat) : List Byte := optBytes 2 i

/-- WRITE of whole entries (R194). -/
def State.doWrite (o : Object) (first : Nat) (es : List (List Byte)) (s : State) : Answer × State :=
  if o.entries < first + es.length then ({ Answer.plain .badIndex with data := refusedIndex none }, s)
  else
    let x := writeEntries o first es false s
    let effect : ReplyEffect := if !s.changePending && x.2.2.changePending then .deferred else .plain
    ({ result := x.1, data := refusedIndex x.2.1, effect := effect }, x.2.2)

/-! ## REQUEST (R51) -/

/-- The result of a request's answer. -/
def RequestAnswer.result (r : RequestAnswer) : Result :=
  match r with
  | .done => .done
  | .refused => .refused
  | .badState => .badState

/-- REQUEST on a protected group (R52 to R54); `none` for a code that names no request. -/
def State.judgeRequest (g : Fin 8) (code : Nat) (s : State) : Option (RequestAnswer × State) :=
  if code = 15 then some (s.requestLock g)
  else if code = 13 then some (s.requestForce g)
  else if code = 8 then some (s.requestManP g)
  else if code = 7 then some (s.requestManW g)
  else if code = 0 then some (s.requestClear g)
  else none

/-- REQUEST (R51). -/
def State.doRequest (group code : Nat) (s : State) : Answer × State :=
  if h : group < 8 then
    match s.judgeRequest ⟨group, h⟩ code with
    | none => (.plain .badValue, s)
    | some x => if (s.group ⟨group, h⟩).protected then (.plain x.1.result, x.2) else (.plain .badState, s)
  else (.plain .badIndex, s)

/-! ## PATCH (R122, R125) -/

/-- The window would leave the group's traffic on port `p` (R122 step 4). -/
def State.patchUnsafe (s : State) (p : Fin 8) : Bool :=
  match s.membership p with
  | none => false
  | some (g, m) =>
    let x := s.group g
    if x.protected then
      x.oldPort == some p &&
        (s.memberSf g (otherMember m) || s.windowOn (x.portOf (otherMember m)) || (m == .w && x.operator == .lock))
    else true

/-- PATCH OPEN (R122, R123). -/
def State.doPatchOpen (port minutes : Nat) (override : Bool) (s : State) : Answer × State :=
  if h : port < 8 then
    let p : Fin 8 := ⟨port, h⟩
    let n := clampNat minutes 1 120
    if (s.cable p).window.isSome then (.plain .badState, s)
    else if s.patchUnsafe p && !override then (.plain .refused, s)
    else (.plain (doneOr (n != minutes)), s.openWindow p n override)
  else (.plain .badIndex, s)

/-- PATCH CLOSE (R125). -/
def State.doPatchClose (port : Nat) (s : State) : Answer × State :=
  if h : port < 8 then
    if (s.cable ⟨port, h⟩).window.isSome then (.plain .done, s.closeWindow ⟨port, h⟩ .closed)
    else (.plain .badState, s)
  else (.plain .badIndex, s)

/-- PATCH (R122, R125, R192; log entry 17). -/
def State.doPatch (port action minutes override : Nat) (s : State) : Answer × State :=
  if action = 1 then
    if 1 < override then (.plain .badValue, s) else s.doPatchOpen port minutes (override == 1)
  else if action = 0 then s.doPatchClose port
  else (.plain .badValue, s)

/-! ## MEASURE (R119) -/

/-- An entry of the audit queue that MEASURE has marked (R119). -/
def AuditEntry.marked (table given : Nat) (e : AuditEntry) : AuditEntry :=
  { e with adHoc := true, burst := some (max (e.burst.getD table) given) }

/-- MEASURE accepted (R119). -/
def State.measure (p : Fin 8) (n : Nat) (s : State) : State :=
  let table := (s.cable p).record.burst
  let audits :=
    if s.csv.audits.any (fun e => e.port == p) then
      s.csv.audits.map fun e => if e.port = p then e.marked table n else e
    else s.csv.audits ++ [{ port := p, adHoc := true, burst := some n }]
  { s with csv := { s.csv with audits := audits } }

/-- MEASURE (R119). -/
def State.doMeasure (port burst : Nat) (s : State) : Answer × State :=
  if h : port < 8 then
    let p : Fin 8 := ⟨port, h⟩
    if s.runnable p && !(s.cable p).suspended && !s.auditActive p then
      (.plain (doneOr (roundBurst burst != burst)), s.measure p (roundBurst burst))
    else (.plain .refused, s)
  else (.plain .badIndex, s)

/-! ## FETCH (R177, R178) -/

/-- The LOST record after a FETCH has freed space (R178). -/
def State.reportLost (s : State) : State :=
  if 0 < s.queue.lost then
    let t := s.queueRecord (.lost s.queue.lost)
    State.deliver .qovf false { t with queue := { t.queue with lost := 0 } }
  else s

/-- FETCH (R177, R178). -/
def State.doFetch (n : Nat) (s : State) : Answer × State :=
  let m := clampNat n 1 4
  let taken := s.queue.records.take m
  let t : State := { s with queue := { s.queue with records := s.queue.records.drop m } }
  let t := if taken.isEmpty then t else t.reportLost
  ({ result := doneOr (m != n), data := byte t.queue.records.length :: taken.flatMap Record.bytes, effect := .plain }, t)

/-! ## CLEAR, ACO, CALIBRATE, REINIT and RESTART -/

/-- What a CLEAR acts on outside the Alarm Unit for one covered cell (R165). -/
def State.clearCondition (a : AlarmId) (s : State) : State :=
  match a with
  | .port p .aud => s.clearSuspension p
  | .cal => s.requestRound
  | _ => s

/-- CLEAR of the covered cells: every cell by R164 first, then the conditions of R165 (DESIGN CHOICE, log entry 40), so
that the AUD flag of a LATCH cell stays set where this CLEAR ends the suspension. The audits of several ports whose
suspensions end are queued in port order (DESIGN CHOICE, log entry 48). -/
def State.clearCovered (as : List AlarmId) (s : State) : State :=
  as.foldl (fun t a => t.clearCondition a) (as.foldl (fun t a => t.clearAlarm a) s)

/-- The cells that a CLEAR's arguments cover, or the refusal (R163); a source above 18 is BAD-INDEX also where the kind
code names no kind (DESIGN CHOICE, log entry 45). -/
def coveredBy (source kind : Nat) : Result × List AlarmId :=
  if source = 255 then (.done, allAlarms)
  else if 19 ≤ source then (.badIndex, [])
  else
    let mine := allAlarms.filter fun a => a.source.val == source
    if kind = 255 then (.done, mine)
    else
      let one := mine.filter fun a => a.kind.val == kind
      if one.isEmpty then (.badValue, []) else (.done, one)

/-- CLEAR (R163 to R165). -/
def State.doClear (source kind : Nat) (s : State) : Answer × State :=
  let c := coveredBy source kind
  (.plain c.1, s.clearCovered c.2)

/-- REINIT and RESTART (R196). -/
def State.doRestart (k : RestartKind) (s : State) : Answer × State :=
  ({ Answer.plain .done with effect := .restart }, { s with mci := { s.mci with restart := some k } })

/-! ## Execution (R190, R192) -/

/-- READ by its argument bytes (R192, R193). -/
def State.readCommand (args : List Byte) (s : State) : Answer × State :=
  match args with
  | [] => (.plain .badValue, s)
  | o :: rest =>
    match objectOf o with
    | none => (.plain .badObject, s)
    | some x =>
      match rest with
      | [first, count] => s.doRead x first.toNat count.toNat
      | _ => (.plain .badValue, s)

/-- A refusal of a WRITE before any entry was judged (R202). -/
def writeRefusal (r : Result) : Answer := { Answer.plain r with data := refusedIndex none }

/-- WRITE by its argument bytes (R192, R194). -/
def State.writeCommand (args : List Byte) (s : State) : Answer × State :=
  match args with
  | [] => (writeRefusal .badValue, s)
  | o :: rest =>
    match (objectOf o).bind fun x => x.writeSize.map fun n => (x, n) with
    | none => (writeRefusal .badObject, s)
    | some (x, n) =>
      match rest with
      | [] => (writeRefusal .badValue, s)
      | first :: es =>
        if es.isEmpty ∨ es.length % n ≠ 0 then (writeRefusal .badValue, s)
        else if s.changePending ∧ x.guarded then (writeRefusal .badState, s)
        else s.doWrite x first.toNat (chunks es.length n es)

/-- A command judged and executed (R192). -/
def State.execute (code : Byte) (args : List Byte) (s : State) : Answer × State :=
  match code.toNat, args with
  | 1, _ => s.readCommand args
  | 2, _ => s.writeCommand args
  | 3, [g, r] => if s.changePending then (.plain .badState, s) else s.doRequest g.toNat r.toNat
  | 4, [p, a, m, o] => if s.changePending then (.plain .badState, s) else s.doPatch p.toNat a.toNat m.toNat o.toNat
  | 5, [p, n] => s.doMeasure p.toNat n.toNat
  | 6, [n] => s.doFetch n.toNat
  | 7, [source, kind] => s.doClear source.toNat kind.toNat
  | 8, [] => (.plain .done, s.cutOff)
  | 9, [] => (.plain .done, s.requestRound)
  | 10, [] => s.doRestart .warm
  | 11, [] => s.doRestart .cold
  | _, _ => (.plain .badValue, s)

/-- The reply queue has room, and no restart is pending (R190, R196). -/
def State.canTake (s : State) : Bool := s.mci.restart.isNone && decide (s.mci.replies.length < 2)

/-- The reply of an executed command: the state is the one after its execution (R181, R190). -/
def State.replyOf (s : State) (tag code : Byte) (a : Answer) : Reply :=
  { bytes := replyMessage
      ([byte s.mci.straps.station.toNat, tag, code, byte a.result.code, s.summary] ++ a.data)
    effect := a.effect }

/-- A command addressed to the part is taken for execution, or dropped (R190, R196). -/
def State.takeCommand (tag code : Byte) (args : List Byte) (s : State) : State :=
  if s.canTake then
    let x := s.execute code args
    { x.2 with mci := { x.2.mci with replies := x.2.mci.replies ++ [x.2.replyOf tag code x.1] } }
  else { s with mci := { s.mci with dropped := bump s.mci.dropped 65535 } }

/-! ## Messages (R185, R187, R188) -/

/-- A rejected message (R187). -/
def State.rejectMessage (s : State) : State := { s with mci := { s.mci with badCrc := bump s.mci.badCrc 65535 } }

/-- A foreign message (R188). -/
def State.foreignMessage (s : State) : State :=
  State.deliver .mstn true { s with mci := { s.mci with foreign := bump s.mci.foreign 65535, mstn := some 10 } }

/-- A station byte that addresses the part (R188). -/
def State.addressed (s : State) (station : Byte) : Bool :=
  station.toNat == s.mci.straps.station.toNat || station == 0xFF

/-- A message judged at its second CRC byte (R187, R188). -/
def State.judgeMessage (body : List Byte) (high low : Byte) (s : State) : State :=
  if crc (byte body.length :: body) = high ++ low then
    match body with
    | station :: tag :: code :: args =>
      if s.addressed station then s.takeCommand tag code args else s.foreignMessage
    | _ => s.rejectMessage
  else s.rejectMessage

/-- The receive state set. -/
def State.setRx (x : RxState) (s : State) : State := { s with mci := { s.mci with rx := x } }

/-- A byte taken from the source port (R185). -/
def State.takeByte (b : Byte) (s : State) : State :=
  match s.mci.rx with
  | .hunt => if b = commandOpening then s.setRx .length else s
  | .length =>
    if 3 ≤ b.toNat ∧ b.toNat ≤ 60 then s.setRx (.body b.toNat []) else (s.setRx .hunt).rejectMessage
  | .body n taken =>
    let bs := taken ++ [b]
    if n ≤ bs.length then s.setRx (.check n bs none) else s.setRx (.body n bs)
  | .check n taken none => s.setRx (.check n taken (some b))
  | .check _ taken (some high) => (s.setRx .hunt).judgeMessage taken high b

/-- Bytes taken one after the other (R184, R185). -/
def State.takeBytes (bs : List Byte) (s : State) : State := bs.foldl (fun t b => t.takeByte b) s

/-- The MSTN timer at a one-second tick (R188). -/
def State.mstnTick (s : State) : State :=
  match s.mci.mstn with
  | none => s
  | some n =>
    if n ≤ 1 then State.deliver .mstn false { s with mci := { s.mci with mstn := none } }
    else { s with mci := { s.mci with mstn := some (n - 1) } }

end Sys2Proof.Machine
end

