-- ==== Sys2Proof/Machine/Receiver.lean ====
section
/-! DEFINITION. The receive side of a line port (Section 1): signal detect, alignment, frames received in SYNC and the
delivery of their fields, the per-second judgements and the elastic store. -/

namespace Sys2Proof.Machine

open Sys2Proof

/-! ## Leaving SYNC and entering HUNT (R1, R3, R4, R7, R9) -/

/-- The receiver's own values when it leaves SYNC (R1, R4, R8, R9). -/
def Port.outOfSync (x : Port) : Port :=
  { x with align := .hunt, searchFrom := 0, aligned := false, predecessor := none, inSequence := 0, mismatched := false,
           computed := none, bridged := none, blanking := 0 }

/-- The receiver of port `p` leaves SYNC for HUNT and the owners are told (R3, R7, R67, R107, R110, R120, R133, R186). -/
def State.leaveSync (p : Fin 8) (s : State) : State :=
  let s := (s.modPort p Port.outOfSync).modQuality p fun _ => .empty
  let s := (s.signalLost p).cableOutOfSync p
  if s.mci.source = some p then s.discardMessage else s

/-- The receiver of port `p` enters HUNT, from any state, and begins a new search (R1). -/
def State.enterHunt (p : Fin 8) (s : State) : State :=
  if s.inSync p then s.leaveSync p
  else s.modPort p fun x => { x with align := .hunt, searchFrom := 0 }

/-! ## Signal detect and LOS (R5) -/

/-- LOS of port `p` becomes present and the receiver is held in HUNT (R1, R5, R11). The alarm cell takes LOS before the
receiver leaves SYNC, so a RAISED record stands before the AUDIT record of an audit that ends (DESIGN CHOICE, R175 leaves
the order open; log entry 44). -/
def State.losPresent (p : Fin 8) (s : State) : State :=
  ((s.modPort p fun x => { x with los := true, losCount := 0, available := false }).deliver (.port p .los) true).enterHunt p

/-- SIGNAL_DETECT_LOW (R5, R21). -/
def State.signalDetectLow (p : Fin 8) (s : State) : State :=
  let t := s.modPort p fun x => { x with sd := false, losCount := 0 }
  if (t.port p).loopback = .terminal then t else t.losPresent p

/-- SIGNAL_DETECT_HIGH (R5). -/
def State.signalDetectHigh (p : Fin 8) (s : State) : State :=
  s.modPort p fun x => { x with sd := true, losCount := 0 }

/-- The LOS debounce of port `p` at a local frame start (R5). -/
def State.losStep (p : Fin 8) (s : State) : State :=
  let x := s.port p
  if x.los && x.sd && x.loopback != .terminal then
    if 8 ≤ x.losCount + 1 then
      (s.modPort p fun x => { x with los := false, losCount := 0, searchFrom := 0 }).deliver (.port p .los) false
    else s.modPort p fun x => { x with losCount := x.losCount + 1 }
  else s

/-- The counts of LOF at a local frame start (R6). -/
def Port.lofCounts (x : Port) : Port :=
  if x.align = .sync then { x with outCount := 0, inCount := bump x.inCount 24 }
  else { x with outCount := bump x.outCount 24, inCount := 0 }

/-- LOF as R6 judges it from the counts. -/
def Port.judgeLof (x : Port) : Port :=
  { x with lof := if x.outCount = 24 then true else if x.inCount = 24 then false else x.lof }

/-- LOF of port `p` judged at a local frame start (R6). -/
def State.lofStep (p : Fin 8) (s : State) : State :=
  let t := s.modPort p fun x => x.lofCounts.judgeLof
  t.deliver (.port p .lof) (t.port p).lof

/-! ## Search (R1, R2) -/

/-- The word that the receiver of a port sees where the line gives `line`: in terminal loopback the line input is
ignored, and it is the word at bit `n` of the port's own transmitted signal (R21; log entry 23). -/
def Port.lineWord (line : BitVec 16) (n : Nat) (x : Port) : BitVec 16 :=
  if x.loopback = .terminal then
    match x.txFrame with
    | some f => sentWord f (n % 11648)
    | none => 0
  else line

/-- FIND: in HUNT, a window that matches at a bit offset the search has reached (R1, R21). -/
def State.find (p : Fin 8) (window : BitVec 16) (offset : Nat) (s : State) : State :=
  let x := s.port p
  if x.align = .hunt ∧ x.los = false ∧ x.searchFrom ≤ offset ∧ x.lineWord window offset = alignmentWord then
    s.modPort p fun x => { x with align := .confirm, candidate := offset, confirmed := 0 }
  else s

/-- A port that enters SYNC (R2 to R4, R8, R9, R14): the store is recentred. -/
def Port.enterSync (x : Port) : Port :=
  { x with align := .sync, confirmed := 0, errored := 0, aligned := false, predecessor := none, inSequence := 0,
           mismatched := false, computed := none, bridged := none, blanking := 0,
           store := { frames := [], firstRead := false, reading := x.store.reading } }

/-- CONFIRM_WORD (R2, R21). -/
def State.confirmWord (p : Fin 8) (word : BitVec 16) (s : State) : State :=
  if (s.port p).align = .confirm then
    s.modPort p fun x =>
      if x.lineWord word x.candidate = alignmentWord then
        if x.confirmed = 0 then { x with confirmed := 1 } else x.enterSync
      else { x with align := .hunt, searchFrom := x.candidate + 1, confirmed := 0 }
  else s

/-! ## Multiframe alignment (R4) -/

/-- Multiframe alignment of port `p` is lost, and the owners are told (R4, R7, R67, R106, R112). -/
def State.loseMultiframe (p : Fin 8) (predecessor : Option (BitVec 4)) (s : State) : State :=
  let s := s.modPort p fun x =>
    { x with aligned := false, predecessor := predecessor, inSequence := 0, mismatched := false }
  (s.signalLost p).traceGap p

/-- Multiframe alignment of port `p` is reached: the index expected next (R4). -/
def Port.reachMultiframe (next : BitVec 4) (x : Port) : Port :=
  { x with aligned := true, expected := next, predecessor := none, inSequence := 0, mismatched := false }

/-- The multiframe index of a frame received in SYNC judged (R4). -/
def State.judgeIndex (p : Fin 8) (index : BitVec 4) (s : State) : State :=
  let x := s.port p
  if x.aligned then
    if index = x.expected then s.modPort p fun x => { x with expected := x.expected + 1, mismatched := false }
    else if x.mismatched then s.loseMultiframe p (some index)
    else s.modPort p fun x => { x with expected := x.expected + 1, mismatched := true }
  else if x.predecessor = some (index - 1) then
    if x.inSequence = 1 then s.modPort p (Port.reachMultiframe (index + 1))
    else s.modPort p fun x => { x with inSequence := 1, predecessor := some index }
  else s.modPort p fun x => { x with inSequence := 0, predecessor := some index }

/-- MULTIFRAME_ALIGNED: the index of the second frame in sequence, the one to come, is judged (R4; log entry 2). -/
def State.multiframeAligned (p : Fin 8) (s : State) : State :=
  let x := s.port p
  match x.predecessor with
  | some q =>
    if x.align = .sync ∧ x.aligned = false ∧ x.inSequence = 1 then s.modPort p (Port.reachMultiframe (q + 2)) else s
  | none => s

/-- MULTIFRAME_ALIGNMENT_LOST: the index of the second mismatching frame, the one to come, is judged (R4; log
entry 2). -/
def State.multiframeLost (p : Fin 8) (index : BitVec 4) (s : State) : State :=
  let x := s.port p
  if x.align = .sync ∧ x.aligned ∧ x.mismatched ∧ index ≠ x.expected then s.loseMultiframe p (some index) else s

/-! ## A frame received in SYNC (R3, R7 to R9) -/

/-- The parity check of a frame and its blanking (R8 to R10). -/
def Port.parityCheck (parity : Byte) (bridged : Bool) (x : Port) : Port :=
  let errored : Bool :=
    match x.computed with
    | some c => x.blanking == 0 && c != parity
    | none => false
  let y :=
    if errored then { x with perSecond := bump x.perSecond 65535, total := bump x.total 4294967295 } else x
  let blanking := x.blanking - 1
  let changed : Bool :=
    match x.bridged with
    | some b => b != bridged
    | none => false
  { y with blanking := if changed then 2 else blanking, bridged := some bridged }

/-- The frame's own parity kept for the frame after it, and the frame written to the elastic store (R8, R14). -/
def Port.takeFrame (f : LineFrame) (x : Port) : Port :=
  { x with computed := some (frameParity f), store := { x.store with frames := x.store.frames ++ [f] } }

/-- The marker flags of a frame delivered with its arrival stamp (R7, R112, R114). -/
def State.markersIn (p : Fin 8) (o : Overhead) (stamped : Option Stamped) (auditClaim : Bool) (s : State) : State :=
  match stamped with
  | none => s
  | some x =>
    let s := if o.mech && auditClaim then s.echoFound x o.ta else s
    if o.mreq then s.markerIn p x.stamp x.vernier else s

/-- The received switch signal handed to the Protection Controller (R7, R67, R68). -/
def State.signalIn (p : Fin 8) (v : SwitchSignal) (s : State) : State :=
  match s.membership p with
  | some (g, .p) => if s.sf p then s else s.modGroup g (Group.takeSignal v)
  | some (_, .w) => s
  | none => s

/-- The arrival of a frame: claims, vernier and stamp (R88 to R90). -/
def State.frameArrival (p : Fin 8) (tap : BitVec 6) (s : State) : Option Stamped × State :=
  let k := if s.candClaims (portCand p) then some (portCand p) else none
  if k.isSome || s.echoClaims p || s.auditClaims p then
    let x := s.stampArrival tap k
    (some x.1, x.2)
  else (none, s)

/-- The fields of a frame received in SYNC delivered to their owners, with the multiframe alignment as it stood at the
frame's arrival (R7; log entries 8, 24). -/
def State.deliverFields (p : Fin 8) (tap : BitVec 6) (f : LineFrame) (s : State) : State :=
  let o := frameFields f
  let aligned := (s.port p).aligned
  let index := (s.port p).expected
  let auditClaim := s.auditClaims p
  let a := s.frameArrival p tap
  let s := if aligned then (a.2.markersIn p o a.1 auditClaim).traceIn p index o.trace else a.2
  let signal := signalOf o.signal.1 o.signal.2
  let s := s.modPort p (Port.parityCheck o.parity signal.bridged)
  let s := s.modQuality p (QualityFilter.take (knownQ o.quality))
  let s := if aligned then s.signalIn p signal else s
  let s := s.modPort p (Port.takeFrame f)
  let s := s.judgeIndex p o.index
  if s.mci.source = some p then s.takeBytes [o.channel.1, o.channel.2] else s

/-- The frame that the receiver of a port takes: its own sent frame in terminal loopback (R21). -/
def Port.input (f : LineFrame) (x : Port) : LineFrame := if x.loopback = .terminal then x.txFrame.getD f else f

/-- FRAME_RECEIVED_IN_SYNC (R3, R7). -/
def State.frameReceived (p : Fin 8) (a : Arrival) (frame : LineFrame) (s : State) : State :=
  if s.inSync p then
    let f := (s.port p).input frame
    let s := s.advanceTo (s.latchClock a)
    if frameWord f = alignmentWord then (s.modPort p fun x => { x with errored := 0 }).deliverFields p a.tap f
    else if 4 ≤ (s.port p).errored + 1 then (s.modPort p fun x => { x with errored := 4 }).leaveSync p
    else (s.modPort p fun x => { x with errored := x.errored + 1 }).deliverFields p a.tap f
  else s

/-- SYNC_LOSS: the fourth errored word is the one to come (R3; log entry 2). -/
def State.syncLoss (p : Fin 8) (s : State) : State :=
  if s.inSync p && (s.port p).errored == 3 then (s.modPort p fun x => { x with errored := 4 }).leaveSync p else s

/-! ## Acceptances (R68, R107, R133) -/

/-- QUALITY_ACCEPTED: the eighth equal code is the one to come (R133; log entry 2). -/
def State.qualityAccepted (p : Fin 8) (s : State) : State :=
  let x := s.tmu.quality[p]
  match x.candidate with
  | some q => if x.run = 7 then s.modQuality p (QualityFilter.take q) else s
  | none => s

/-- TRACE_ACCEPTED: the third equal multiframe is the one to come (R107; log entry 2). -/
def State.traceAccepted (p : Fin 8) (s : State) : State :=
  if (s.cable p).traceRun = 2 ∧ (s.cable p).traceCandidate.isSome then
    (s.modCable p fun c => { c with traceRun := 3 }).acceptTrace p
  else s

/-- SWITCH_SIGNAL_ACCEPTED: the third equal frame is the one to come (R68; log entry 2). -/
def State.signalAccepted (g : Fin 8) (s : State) : State :=
  let x := s.group g
  match x.candidate with
  | some v => if x.run = 2 then s.modGroup g (Group.takeSignal v) else s
  | none => s

/-! ## Closing a second (R10 to R13, R16) -/

/-- EXC after the second just closed (R11, R13). -/
def Port.judgeExc (x : Port) : Port :=
  if x.available then
    if x.settings.xt ≤ x.perSecond then { x with exc := true, belowXt := 0 }
    else { x with belowXt := bump x.belowXt 2, exc := x.exc && bump x.belowXt 2 != 2 }
  else x

/-- DEG after the second just closed (R12, R13). -/
def Port.judgeDeg (x : Port) : Port :=
  if x.available then
    if x.settings.dt ≤ x.perSecond then
      { x with degradedRun := bump x.degradedRun 10, cleanRun := 0,
               deg := x.deg || decide (x.settings.dm ≤ bump x.degradedRun 10) }
    else
      { x with degradedRun := 0, cleanRun := bump x.cleanRun 10,
               deg := x.deg && !decide (x.settings.dm ≤ bump x.cleanRun 10) }
  else x

/-- The counts of a port when a second closes (R10, R16). -/
def Port.closeSecond (x : Port) : Port :=
  { x with lastSecond := x.perSecond, perSecond := 0, slip := x.slipped, slipped := false }

/-- EXC judged at a one-second tick (R11). -/
def State.excStep (p : Fin 8) (s : State) : State :=
  let t := s.modPort p Port.judgeExc
  t.deliver (.port p .exc) (t.port p).exc

/-- DEG judged at a one-second tick (R12). -/
def State.degStep (p : Fin 8) (s : State) : State :=
  let t := s.modPort p Port.judgeDeg
  t.deliver (.port p .deg) (t.port p).deg

/-- Port `p` closes its second (R10 to R13, R16). -/
def State.portSecond (p : Fin 8) (s : State) : State :=
  let s := (s.once (.exc p) (State.excStep p)).once (.deg p) (State.degStep p)
  let s := s.modPort p Port.closeSecond
  s.deliverValue (.port p .slip) (s.port p).slip (some (s.port p).slipCount)

/-- The running second's availability at a local frame start (R11). -/
def Port.noteAvailable (tick : Bool) (x : Port) : Port :=
  { x with available := (tick || x.available) && x.align == .sync && !x.los }

/-! ## Elastic store (R14, R15) -/

/-- The fill of a store, for the bytes of the newest frame written so far (R14; log entry 6). -/
def Store.fill (written : Nat) (x : Store) : Nat :=
  if x.frames.isEmpty then 0 else Config.frameBytes * (x.frames.length - 1) + min written Config.frameBytes

/-- The bytes of the first frame received in SYNC written so far (R14). -/
def Store.firstBytes (written : Nat) (x : Store) : Nat := min (x.fill written) Config.frameBytes

/-- The next frame in order is read. -/
def Store.readNext (x : Store) : Store := { frames := x.frames.tail, firstRead := true, reading := x.frames.head? }

/-- A slip of a port's store (R16). -/
def Port.slipOnce (x : Port) : Port := { x with slipCount := bump x.slipCount 65535, slipped := true }

/-- The store in terminal loopback, at a local frame start in SYNC: whole frames, read one in each local frame without
a slip; while the next one has not been taken in, the last one is read on (R21; log entry 23). -/
def Store.ownRead (x : Store) : Store :=
  if x.frames.isEmpty then (if x.firstRead then x else { x with reading := none }) else x.readNext

/-- The store of a port at a local frame start (R14, R15, R21). -/
def Port.storeStep (written : Nat) (x : Port) : Port :=
  if x.align = .sync ∧ x.loopback = .terminal then { x with store := x.store.ownRead }
  else if x.align = .sync then
    let n := x.store.fill written
    if x.store.firstRead then
      if n < Config.fillLow then x.slipOnce
      else if Config.fillHigh < n then
        { x.slipOnce with store := ({ x.store with frames := x.store.frames.tail } : Store).readNext }
      else { x with store := x.store.readNext }
    else if Config.fillLow ≤ x.store.firstBytes written then { x with store := x.store.readNext }
    else { x with store := { x.store with reading := none } }
  else { x with store := { x.store with reading := none } }

/-- The store of port `p` at a local frame start (R14, R15). -/
def State.storeStep (p : Fin 8) (s : State) : State :=
  s.modPort p (Port.storeStep (s.inputs.frame.written[p]))

/-! ## Loopback (R21, R22) -/

/-- A written loopback taken into use at a local frame start (R5, R21, R22). Where terminal loopback begins or ends, the
receiver enters HUNT before the change of LOS is delivered (DESIGN CHOICE, R175 leaves the order open; log entry 44). -/
def State.loopbackStep (p : Fin 8) (s : State) : State :=
  let old := (s.port p).loopback
  let new := (s.port p).settings.loopback
  if old = new then s
  else
    let s := s.modPort p fun x => { x with loopback := new }
    if new = .terminal then
      ((s.enterHunt p).modPort p fun x => { x with los := false, losCount := 0 }).deliver (.port p .los) false
    else if old = .terminal then
      let s := s.enterHunt p
      if (s.port p).sd then s else s.losPresent p
    else s

end Sys2Proof.Machine
end

