-- ==== Sys2Proof/Machine/FrameStart.lean ====
section
/-! DEFINITION. The local frame start: the frame generator (R128, R129), what every block does at it and in which order
(log entry 4), and the contents of the frames that begin there (R17, R33, R37). -/

namespace Sys2Proof.Machine

open Sys2Proof

/-! ## Frame generator (R128, R129) -/

/-- ACC and the length of the frame that begins, from ACC + FW (R128). -/
def frameLength (sum : Int) : Int × Nat :=
  if 65536 ≤ sum then (sum - 65536, 4097) else if sum < 0 then (sum + 65536, 4095) else (sum, 4096)

/-- The counts of the frame generator at a local frame start (R129). -/
def Tmu.count (t : Tmu) : Tmu :=
  if t.started then
    if t.frameCount = 7999 then { t with frameCount := 0, seconds := (t.seconds + 1) % 4294967296 }
    else { t with frameCount := t.frameCount + 1 }
  else { t with started := true }

/-- The local frame start at clock `clk` is a one-second tick (R129). -/
def Tmu.ticks (t : Tmu) : Bool := t.started && t.frameCount == 7999

/-- The frame generator at a local frame start that falls at clock `clk` (R128, R129). -/
def Tmu.generate (clk : Nat) (t : Tmu) : Tmu :=
  let x := frameLength (t.acc + t.fw)
  { t.count with acc := x.1, frameNo := t.frameNo + 1, nextStart := clk + x.2 }

/-- The marks latched at a local frame start, and the claims of a new multiframe (R81, R134). -/
def State.latchMarks (s : State) : State :=
  let s : State := { s with imu := { s.imu with frameStart := s.imu.clk } }
  if s.index = 0 then
    { s with
      imu := { s.imu with multiframeStart := s.imu.clk }
      tmu := { s.tmu with cands := s.tmu.cands.map fun c => { c with claim := c.entry.enabled } } }
  else s

/-- The coming local frame start's instant is reached and opened, once: time passes to it and the frame generator
advances (R81, R128, R129; log entry 2). A conversion that ends at this very edge is taken before the frame count
rises (DESIGN CHOICE, log entry 41). -/
def State.openFrame (s : State) : State :=
  if s.moment.opened then s
  else
    let s := s.advanceTo s.tmu.nextStart
    State.latchMarks
      { s with
        moment := { opened := true, tick := s.tmu.ticks, done := [] }
        tmu := s.tmu.generate s.imu.clk }

/-! ## One-second tick -/

/-- What a tick does before the local frame that begins at it is judged: the reference WTR counts, the clear soaks, and
the closing of each port's second, to which a slip of this local frame start no longer belongs (R10 to R13, R16, R139,
R157). -/
def State.tickFirst (s : State) : State :=
  overAll State.portSecond (overAlarms State.clearSoakStep (overAll (fun k t => t.once (.wtr k) (State.candTick k)) s))

/-- The other counts of a tick (R117, R124, R125, R188). -/
def State.tickLast (s : State) : State :=
  let s := overAll (fun p t => t.once (.periodic p) (State.periodicTick p)) s
  (overAll (fun p t => t.once (.window p) (State.windowTick p)) s).once .mstn State.mstnTick

/-- A one-second tick whose counts have not been taken ahead. -/
def State.tickDue (s : State) : Bool := s.moment.tick && !s.moment.done.contains .tick

/-! ## Contents of the frames (Sections 1.8, 2.3, 2.4) -/

/-- What the slots mapped to a group carry toward the cards in this frame (R33, R35). -/
inductive PayloadSource where
  | guard
  | failed
  | frame (f : LineFrame)
  deriving DecidableEq, Repr

/-- The source of the payload of group `g` (R33 to R35). -/
def State.payloadSource (s : State) (g : Fin 8) : PayloadSource :=
  let x := s.group g
  if x.guard then .guard
  else
    match x.portOf x.selector with
    | none => .failed
    | some p =>
      if s.inSync p && (s.port p).store.firstRead && !s.sf p then
        match (s.port p).store.reading with
        | some f => .frame f
        | none => .failed
      else .failed

/-- Content and failure flag of a backplane slot (R33, R36). -/
def slotContent (sources : Vector PayloadSource 8) (e : MapEntry) : Slot × Bool :=
  match e with
  | .unequipped => (idleSlot, false)
  | .mapped g n =>
    match sources[g] with
    | .guard => (idleSlot, false)
    | .failed => (aisSlot, true)
    | .frame f => (f.payload[n], false)

/-- The map entry of slot `n` of backplane port `b` (2.2). -/
def SlotSwitch.entryOf (x : SlotSwitch) (b : Fin 2) (n : Fin 128) : MapEntry :=
  x.mapInUse[128 * b.val + n.val]'(by omega)

/-- The failure flags of a frame as one value, flag `n` in bit `n` (R36). -/
def flagBits (fs : List Bool) : BitVec 128 := BitVec.ofNat 128 (fs.foldr (fun b v => bit b + 2 * v) 0)

/-- The backplane frame that port `b` begins to send (R27, R33, R36). -/
def State.backplaneFrame (s : State) (b : Fin 2) : BackplaneFrame :=
  let sources := Vector.ofFn s.payloadSource
  let content (n : Fin 128) : Slot × Bool := slotContent sources (s.ssw.entryOf b n)
  { index := s.index
    slots := Vector.ofFn fun n => (content n).1
    flags := flagBits ((List.finRange 128).map fun n => (content n).2) }

/-- The held backplane content of map entry `n` (R28, R37). -/
def SlotSwitch.heldSlot (x : SlotSwitch) (n : Fin 256) : Slot :=
  (x.held[n.val / 128]'(by omega))[n.val % 128]'(Nat.mod_lt _ (by decide))

/-- The payload of a port that carries the traffic of group `g` (R37). -/
def State.groupPayload (s : State) (g : Fin 8) : Vector Slot 40 :=
  (List.finRange 256).foldl (fun v n =>
    match s.ssw.mapInUse[n] with
    | .mapped h k => if h = g then v.set k (s.ssw.heldSlot n) else v
    | .unequipped => v) (Vector.replicate 40 idleSlot)

/-- The payload that the Slot Switch gives for port `p` (R37). -/
def State.linePayload (s : State) (p : Fin 8) : Vector Slot 40 :=
  match s.membership p with
  | some (g, .w) => s.groupPayload g
  | some (g, .p) => if (s.group g).bridge then s.groupPayload g else Vector.replicate 40 idleSlot
  | none => Vector.replicate 40 idleSlot

/-- The trace character of port `p`, with the start mark at index 0 (R105). -/
def State.traceCharacter (s : State) (p : Fin 8) : Byte :=
  let c : Byte := ((s.cable p).txTrace[s.index.toNat]'(by omega)).setWidth 8
  if s.index = 0 then c ||| 0x80#8 else c

/-- The overhead that the owners give for port `p` (R17). -/
def State.overheadOf (s : State) (p : Fin 8) : Overhead :=
  let member := s.managementGroup.hasMember p
  { index := s.index
    mreq := (s.cable p).markerOut
    mech := (s.cable p).echoOut.isSome
    attn := member && s.attn
    trace := s.traceCharacter p
    parity := (s.port p).txParity
    quality := s.tmu.outQ[p]
    signal :=
      match s.membership p with
      | some (g, _) => ((s.group g).signal g).bytes
      | none => (0, 0)
    ta := (s.cable p).echoOut.getD taAbsent
    channel := if member then s.mci.out else (0, 0) }

/-- The frame that a port in facility loopback sends: the one that its store reads, or FF hex throughout while the
receiver is out of SYNC or the store has made no first read (R20). -/
def Port.loopedFrame (x : Port) : LineFrame :=
  if x.align = .sync ∧ x.store.firstRead then x.store.reading.getD frameOfOnes else frameOfOnes

/-- The frame that port `p` begins to send (R17, R20). -/
def State.sentFrame (s : State) (p : Fin 8) : LineFrame :=
  if (s.port p).loopback = .facility then (s.port p).loopedFrame
  else { overhead := (s.overheadOf p).build, payload := s.linePayload p }

/-- Port `p` begins to send its frame, whose parity the next frame carries (R17, R18). -/
def State.transmitStep (p : Fin 8) (s : State) : State :=
  let f := s.sentFrame p
  s.modPort p fun x => { x with txFrame := some f, txParity := frameParity f }

/-- The Slot Switch takes the map and the held frames in use; no backplane frame ends at the first local frame start
(R28, R29). -/
def State.takeMap (s : State) : State :=
  { s with ssw := { s.ssw with
      mapInUse := s.ssw.storedMap
      held := if s.tmu.frameNo ≤ 1 then s.ssw.held else s.inputs.frame.slots } }

/-- The backplane ports begin to send (R27). -/
def State.sendBackplane (s : State) : State :=
  { s with ssw := { s.ssw with sent := Vector.ofFn fun b => some (s.backplaneFrame b) } }

/-! ## Steps of the blocks -/

/-- The traces used throughout the multiframe that begins (R105). -/
def State.latchTraces (s : State) : State :=
  if s.index = 0 then overAll (fun p t => t.modCable p fun c => { c with txTrace := c.record.transmitted }) s else s

/-- The Cable Supervisor at a local frame start (R105, R112 to R116). -/
def State.cableStep (s : State) : State :=
  overAll State.echoStep s.latchTraces.auditStartStep.echoTimeoutStep.drawStep.departStep

/-- MLOST judged at a local frame start (R189). -/
def State.mlostStep (s : State) : State :=
  let b := s.channelLost
  State.deliver .mlost b { s with mci := { s.mci with mlost := b } }

/-- The Management Channel Interface at a local frame start (R184, R189, R191). -/
def State.channelStep (s : State) : State := s.sourceStep.mlostStep.replyBeginStep.sendBytes

/-- The frames of the local frame that begins (R17, R27, R33, R37). -/
def State.framesStep (s : State) : State := overAll State.transmitStep s.sendBackplane

/-- The judgements of the line ports and station inputs at a local frame start (R5, R6, R11, R135); at the first one no
local frame has ended, and no station input is judged (DESIGN CHOICE, log entry 38). -/
def State.inputStep (s : State) : State :=
  let s := overAll (fun p t => (t.once (.los p) (State.losStep p)).once (.lof p) (State.lofStep p)) s
  let s := if s.tickDue then s.tickLast else s
  let s := overAll (fun p t => t.modPort p (Port.noteAvailable s.moment.tick)) s
  if s.tmu.frameNo ≤ 1 then s else overAll (fun i t => t.once (.station i) (State.stationStep i)) s

/-- The instant is over: the markers and echoes of the frames have been placed. -/
def State.closeFrame (s : State) : State :=
  let t := overAll (fun p t => t.modCable p fun c => { c with echoOut := none, markerOut := false }) s
  { t with moment := .closed }

/-- The evaluations of a local frame start, in the order of log entry 4. -/
def State.evaluations (s : State) : State :=
  let s := if s.tickDue then s.tickFirst else s
  let s := overAll State.loopbackStep s.takeMap
  let s := overAll (fun p t => t.once (.store p) (State.storeStep p)) s
  let s := overAll State.groupTurn s
  (overAll (fun k t => t.once (.cand k) (State.candStep k)) s).selection.outputQuality

/-- A cold restart waits for the reply that is leaving. -/
def State.coldRestartDue (s : State) : Bool :=
  s.replyDone && s.replyEffect == .restart && s.mci.restart == some .cold

/-- What every block does at a local frame start whose instant is open (log entry 4); a cold restart ends it. -/
def State.frameBody (s : State) : State :=
  let s := (overAlarms State.raiseSoakStep s).once .press State.pressStep
  if s.coldRestartDue then s.replySentStep
  else s.replySentStep.evaluations.cableStep.inputStep.channelStep.framesStep.closeFrame

/-- The coming local frame start's instant opened, behind the pulses of the local frame that it ends (R135). -/
def State.reachFrame (s : State) : State := (s.pulsesUpTo s.horizon).openFrame

/-- A local frame start (R128), with the inputs as they stand. -/
def State.frameStart (s : State) : State := s.reachFrame.frameBody

/-- LOCAL_FRAME_START, with what the outside gives at it. -/
def State.localFrameStart (x : FrameInputs) (s : State) : State :=
  State.frameStart { s with inputs := { s.inputs with frame := x } }

/-! ## The measurement clock on an empty queue (log entry 1) -/

/-- One edge of the measurement clock, with the local frame start if it ends the local frame. -/
def State.idle (s : State) : State :=
  if s.moment.opened || decide (s.tmu.nextStart ≤ s.imu.clk + 1) then s.frameStart
  else (s.pulsesUpTo (s.imu.clk + 1)).advanceTo (s.imu.clk + 1)

end Sys2Proof.Machine
end

