-- ==== Sys2Proof/Machine/LineCommands.lean ====
section
/-! DEFINITION. Meanings of the rows of the restarts, the line ports and the frame generator (Sections 1, 7.1 and 10.9). -/

namespace Sys2Proof.Machine

open Sys2Proof

/-- The strap pins at the given levels. -/
def State.setStraps (x : Straps) (s : State) : State := { s with inputs := { s.inputs with straps := x } }

/-- `f` at the coming local frame start, if that is a one-second tick whose counts have not been made. -/
def atTick (f : State → State) (s : State) : State := if s.openFrame.tickDue then f s.openFrame else s.openFrame

/-- The counts of a tick taken ahead of LOCAL_FRAME_START (R129; log entry 2). -/
def State.tickStep (s : State) : State := s.once .tick fun t => t.tickFirst.tickLast

/-- RESET (R198): the straps are sampled and every block takes its cold-restart state. -/
def execReset (straps : Straps) (s : State) : Host.Outcome State Fault Refusal :=
  .next (s.setStraps straps).coldRestart

/-- PENDING_RESTART_ACTS (R196): the restart that waits for the reply now sent acts, at the coming local frame start. -/
def execPendingRestartActs (straps : Straps) (s : State) : Host.Outcome State Fault Refusal :=
  .next (ifOutcome (fun s _ => s.replyDone && s.replyEffect == .restart && s.mci.restart.isSome)
    (fun s => ((s.setStraps straps).openFrame).replySentStep) s)

/-- SIGNAL_DETECT_LOW (R5). -/
def execSignalDetectLow (p : Fin 8) (s : State) : Host.Outcome State Fault Refusal :=
  .next (s.signalDetectLow p)

/-- SIGNAL_DETECT_HIGH (R5). -/
def execSignalDetectHigh (p : Fin 8) (s : State) : Host.Outcome State Fault Refusal :=
  .next (s.signalDetectHigh p)

/-- LOS_DEBOUNCE_END (R5), at the coming local frame start. -/
def execLosDebounceEnd (p : Fin 8) (s : State) : Host.Outcome State Fault Refusal :=
  .next (ifOutcome (fun s t => (s.port p).los && !(t.port p).los) (fun s => s.openFrame.once (.los p) (State.losStep p)) s)

/-- FIND (R1). -/
def execFind (p : Fin 8) (window : BitVec 16) (offset : Nat) (s : State) : Host.Outcome State Fault Refusal :=
  .next (s.find p window offset)

/-- CONFIRM_WORD (R2). -/
def execConfirmWord (p : Fin 8) (word : BitVec 16) (s : State) : Host.Outcome State Fault Refusal :=
  .next (s.confirmWord p word)

/-- FRAME_RECEIVED_IN_SYNC (R3). -/
def execFrameReceivedInSync (p : Fin 8) (arrival : Arrival) (frame : LineFrame) (s : State) : Host.Outcome State Fault Refusal :=
  .next (s.frameReceived p arrival frame)

/-- SYNC_LOSS (R3). -/
def execSyncLoss (p : Fin 8) (s : State) : Host.Outcome State Fault Refusal :=
  .next (s.syncLoss p)

/-- MULTIFRAME_ALIGNED (R4). -/
def execMultiframeAligned (p : Fin 8) (s : State) : Host.Outcome State Fault Refusal :=
  .next (s.multiframeAligned p)

/-- MULTIFRAME_ALIGNMENT_LOST (R4), with the index of the second mismatching frame. -/
def execMultiframeAlignmentLost (p : Fin 8) (index : BitVec 4) (s : State) : Host.Outcome State Fault Refusal :=
  .next (s.multiframeLost p index)

/-- LOF_PRESENT (R6), at the coming local frame start. -/
def execLofPresent (p : Fin 8) (s : State) : Host.Outcome State Fault Refusal :=
  .next (ifOutcome (fun s t => !(s.port p).lof && (t.port p).lof)
    (fun s => s.openFrame.once (.lof p) (State.lofStep p)) s)

/-- LOF_ABSENT (R6), at the coming local frame start. -/
def execLofAbsent (p : Fin 8) (s : State) : Host.Outcome State Fault Refusal :=
  .next (ifOutcome (fun s t => (s.port p).lof && !(t.port p).lof)
    (fun s => s.openFrame.once (.lof p) (State.lofStep p)) s)

/-- LOCAL_FRAME_START (R128). -/
def execLocalFrameStart (inputs : FrameInputs) (s : State) : Host.Outcome State Fault Refusal :=
  .next (s.localFrameStart inputs)

/-- FIRST_READ (R14), at the coming local frame start, with the bytes of the newest frame written so far. -/
def execFirstRead (p : Fin 8) (written : Nat) (s : State) : Host.Outcome State Fault Refusal :=
  .next (ifOutcome (fun s t => !(s.port p).store.firstRead && (t.port p).store.firstRead)
    (fun s =>
      let x := s.inputs.frame
      let s : State := { s with inputs := { s.inputs with frame := { x with written := x.written.set p written } } }
      s.openFrame.once (.store p) (State.storeStep p)) s)

/-- ONE_SECOND_TICK (R129), at the coming local frame start. -/
def execOneSecondTick (s : State) : Host.Outcome State Fault Refusal :=
  .next (ifOutcome (fun _ t => t.moment.tick) (atTick State.tickStep) s)

/-- EXC_ABSENT (R11), at the coming tick. -/
def execExcAbsent (p : Fin 8) (s : State) : Host.Outcome State Fault Refusal :=
  .next (ifOutcome (fun s t => (s.port p).exc && !(t.port p).exc)
    (atTick fun s => s.once (.exc p) (State.excStep p)) s)

/-- DEG_PRESENT (R12), at the coming tick. -/
def execDegPresent (p : Fin 8) (s : State) : Host.Outcome State Fault Refusal :=
  .next (ifOutcome (fun s t => !(s.port p).deg && (t.port p).deg)
    (atTick fun s => s.once (.deg p) (State.degStep p)) s)

/-- DEG_ABSENT (R12), at the coming tick. -/
def execDegAbsent (p : Fin 8) (s : State) : Host.Outcome State Fault Refusal :=
  .next (ifOutcome (fun s t => (s.port p).deg && !(t.port p).deg)
    (atTick fun s => s.once (.deg p) (State.degStep p)) s)

end Sys2Proof.Machine
end

