-- ==== Sys2Proof/Machine/GroupCommands.lean ====
section
/-! DEFINITION. Meanings of the rows of the protection groups (Sections 3 and 4). -/

namespace Sys2Proof.Machine

open Sys2Proof

/-- The coming local frame start's instant opened, with the change that its reply has released applied (R195). -/
def State.openChanged (s : State) : State :=
  let u := s.openFrame
  if u.replyEffect = .deferred then u.replySentStep else u

/-- The evaluation of group `g` at the coming local frame start, taken ahead (log entry 2). -/
def State.groupAhead (g : Fin 8) (s : State) : State := s.openChanged.groupTurn g

/-- One condition of one member, with its hold-off (R48). -/
def Group.condition (m : Member) (c : Condition) (x : Group) : HoldOff :=
  match m, c with
  | .w, .sf => x.sfW
  | .w, .sd => x.sdW
  | .p, .sf => x.sfP
  | .p, .sd => x.sdP

/-- WAIT is at the tick before its expiry (R57). -/
def Group.wtrDue (x : Group) : Bool :=
  match x.restore, x.wtrCount with
  | .wait, some n => decide (10 * x.record.wtr ≤ n + 1)
  | _, _ => false

/-- HOLD_OFF_EXPIRY (R48), at the coming local frame start. -/
def execHoldOffExpiry (g : Fin 8) (m : Member) (c : Condition) (s : State) : Host.Outcome State Fault Refusal :=
  .next (ifOutcome (fun s t => !((s.group g).condition m c).after && ((t.group g).condition m c).after)
    (State.groupAhead g) s)

/-- WTR_EXPIRY (R57), at the coming tick. -/
def execWtrExpiry (g : Fin 8) (s : State) : Host.Outcome State Fault Refusal :=
  .next (ifOutcome (fun s t => (s.group g).wtrDue && t.moment.tick && (t.group g).restore == .none)
    (State.groupAhead g) s)

/-- SWITCH_SIGNAL_ACCEPTED (R68). -/
def execSwitchSignalAccepted (g : Fin 8) (s : State) : Host.Outcome State Fault Refusal :=
  .next (s.signalAccepted g)

/-- CONFIRM_TIMER_EXPIRY (R76), at the coming local frame start. -/
def execConfirmTimerExpiry (g : Fin 8) (s : State) : Host.Outcome State Fault Refusal :=
  .next (ifOutcome (fun s t => (s.group g).psf.isNone && (t.group g).psf == some .timeout) (State.groupAhead g) s)

/-- PSF_END (R78), at the coming local frame start. -/
def execPsfEnd (g : Fin 8) (s : State) : Host.Outcome State Fault Refusal :=
  .next (ifOutcome (fun s t => (s.group g).psf.isSome && (t.group g).psf.isNone) (State.groupAhead g) s)

end Sys2Proof.Machine
end

