-- ==== Sys2Proof/Machine/TimingCommands.lean ====
section
/-! DEFINITION. Meanings of the rows of the measurement unit and the Timing Unit (Sections 5 and 7). -/

namespace Sys2Proof.Machine

open Sys2Proof

/-- The four conversions, each as the step that completes it. -/
def conversionSteps : List (State → State) := (List.finRange 4).map State.stampCompleteStep

/-- STATION_LOS_END (R135), at the coming local frame start, with the edges counted in the local frame that ends. -/
def execStationLosEnd (i : Fin 2) (edges : Nat) (s : State) : Host.Outcome State Fault Refusal :=
  .next (ifOutcome (fun s t => (s.tmu.stations[i]).los && !(t.tmu.stations[i]).los && decide (1 < t.tmu.frameNo))
    (fun s =>
      let x := s.inputs.frame
      let s : State := { s with inputs := { s.inputs with frame := { x with edges := x.edges.set i edges } } }
      (s.pulseBy s.horizon i).openFrame.once (.station i) (State.stationStep i)) s)

/-- STATION_PULSE (R134, R135). -/
def execStationPulse (i : Fin 2) (pulse : PulseEdge) (s : State) : Host.Outcome State Fault Refusal :=
  .next (s.pulseReported i pulse)

/-- STAMP_COMPLETE (R84). -/
def execStampComplete (v : Fin 4) (s : State) : Host.Outcome State Fault Refusal :=
  .next (s.stampCompleteStep v)

/-- PHASE_SAMPLE_MISSING (R134). -/
def execPhaseSampleMissing (k : Fin 10) (s : State) : Host.Outcome State Fault Refusal :=
  .next (s.missingStep k)

/-- REF_PRESENT (R137): the sample that makes REF present, a missing one or one whose conversion ends. -/
def execRefPresent (k : Fin 10) (s : State) : Host.Outcome State Fault Refusal :=
  .next (firstOutcome (fun s t => !(s.cand k).ref && (t.cand k).ref) (State.missingStep k :: conversionSteps) s)

/-- REF_ABSENT (R137): the sample that makes REF absent, its conversion ending. -/
def execRefAbsent (k : Fin 10) (s : State) : Host.Outcome State Fault Refusal :=
  .next (firstOutcome (fun s t => (s.cand k).ref && !(t.cand k).ref) conversionSteps s)

/-- ENTER_LOCKED (R144): the sample that makes the unit LOCKED, its conversion ending. -/
def execEnterLocked (s : State) : Host.Outcome State Fault Refusal :=
  .next (firstOutcome (fun s t => s.tmu.state == .acquire && t.tmu.state == .locked) conversionSteps s)

/-- UNLOCK (R144): the sample that returns the unit to ACQUIRE with the same reference, its conversion ending. -/
def execUnlock (s : State) : Host.Outcome State Fault Refusal :=
  .next (firstOutcome
    (fun s t => s.tmu.state == .locked && t.tmu.state == .acquire && s.tmu.selected == t.tmu.selected)
    conversionSteps s)

/-- REFERENCE_HOLD_OFF_EXPIRY (R138), at the coming local frame start. -/
def execReferenceHoldOffExpiry (k : Fin 10) (s : State) : Host.Outcome State Fault Refusal :=
  .next (ifOutcome (fun s t => (s.cand k).state != .failed && (t.cand k).state == .failed)
    (fun s => s.openFrame.once (.cand k) (State.candStep k)) s)

/-- REFERENCE_WTR_EXPIRY (R139), at the coming tick. -/
def execReferenceWtrExpiry (k : Fin 10) (s : State) : Host.Outcome State Fault Refusal :=
  .next (ifOutcome (fun s t => (s.cand k).state == .wait && (t.cand k).state == .available)
    (atTick fun s => s.once (.wtr k) (State.candTick k)) s)

/-- QUALITY_ACCEPTED (R133). -/
def execQualityAccepted (p : Fin 8) (s : State) : Host.Outcome State Fault Refusal :=
  .next (s.qualityAccepted p)

/-- CALIBRATION_TURN_END (R85, R86), with the readings of the turn. -/
def execCalibrationTurnEnd (readings : Vector Nat 64) (s : State) : Host.Outcome State Fault Refusal :=
  .next (s.turnEndStep readings)

end Sys2Proof.Machine
end

