-- ==== Sys2Proof/Machine/CableCommands.lean ====
section
/-! DEFINITION. Meanings of the rows of the Cable Supervisor (Section 6). -/

namespace Sys2Proof.Machine

open Sys2Proof

/-- The Cable Supervisor's part of the coming local frame start up to the marker (R113, R114, R116; log entry 25). -/
def State.markerStep (s : State) : State := s.openFrame.auditStartStep.echoTimeoutStep.drawStep.departStep

/-- A port whose coming frame carries MREQ in `t` and not yet in `s`. -/
def newMarker (s t : State) : Bool := (List.finRange 8).any fun p => (t.cable p).markerOut && !(s.cable p).markerOut

/-- The periodic timer of port `p` is at the tick before its expiry (R117). -/
def State.periodicDue (s : State) (p : Fin 8) : Bool :=
  match (s.cable p).timer with
  | some t => decide (t.target ≤ t.count + 1)
  | none => false

/-- TRACE_ACCEPTED (R107). -/
def execTraceAccepted (p : Fin 8) (s : State) : Host.Outcome State Fault Refusal :=
  .next (s.traceAccepted p)

/-- ECHO (R112), at the coming local frame start. -/
def execEcho (p : Fin 8) (s : State) : Host.Outcome State Fault Refusal :=
  .next (ifOutcome (fun s t => (s.cable p).echoOut.isNone && (t.cable p).echoOut.isSome)
    (fun s => s.openFrame.echoStep p) s)

/-- AUDIT_START (R116), at the coming local frame start. -/
def execAuditStart (s : State) : Host.Outcome State Fault Refusal :=
  .next (ifOutcome (fun s t => s.openFrame.csv.audits != t.csv.audits) (fun s => s.openFrame.auditStartStep) s)

/-- MARKER_DEPARTURE (R113), at the coming local frame start. -/
def execMarkerDeparture (s : State) : Host.Outcome State Fault Refusal :=
  .next (ifOutcome newMarker State.markerStep s)

/-- ECHO_TIMEOUT (R114), at the coming local frame start. -/
def execEchoTimeout (s : State) : Host.Outcome State Fault Refusal :=
  .next (ifOutcome (fun s t => s.openFrame.imu.burst != t.imu.burst) (fun s => s.openFrame.echoTimeoutStep) s)

/-- SUSPENSION (R120): the step that ends a third failing audit, a conversion or an echo timeout. -/
def execSuspension (p : Fin 8) (s : State) : Host.Outcome State Fault Refusal :=
  .next (firstOutcome (fun s t => !(s.cable p).suspended && (t.cable p).suspended)
    (conversionSteps ++ [fun s => s.openFrame.echoTimeoutStep]) s)

/-- PERIODIC_TIMER_EXPIRY (R117), at the coming tick. -/
def execPeriodicTimerExpiry (p : Fin 8) (s : State) : Host.Outcome State Fault Refusal :=
  .next (ifOutcome (fun s t => s.periodicDue p && t.moment.tick && (s.cable p).timer != (t.cable p).timer)
    (atTick fun s => s.once (.periodic p) (State.periodicTick p)) s)

/-- WINDOW_EXPIRED (R125), at the coming tick; the periodic timer that it starts does not count this tick. -/
def execWindowExpired (p : Fin 8) (s : State) : Host.Outcome State Fault Refusal :=
  .next (ifOutcome (fun s t => (s.cable p).window.isSome && (t.cable p).window.isNone)
    (atTick fun s => (s.once (.periodic p) (State.periodicTick p)).once (.window p) (State.windowTick p)) s)

end Sys2Proof.Machine
end

