-- ==== Sys2Proof/Machine/AlarmCommands.lean ====
section
/-! DEFINITION. Meanings of the rows of the Alarm Unit and of the interface's own timer (Sections 8 and 10). -/

namespace Sys2Proof.Machine

open Sys2Proof

/-- The ACO input pressed (R169). -/
def State.pressInput (s : State) : State :=
  { s with inputs := { s.inputs with frame := { s.inputs.frame with aco := true } } }

/-- RAISE_SOAK_END (R156), at the coming local frame start. -/
def execRaiseSoakEnd (a : AlarmId) (s : State) : Host.Outcome State Fault Refusal :=
  .next (ifOutcome (fun s t => (s.alarm a).state == .raising && (t.alarm a).state == .active)
    (fun s => s.openFrame.raiseSoakStep a) s)

/-- CLEAR_SOAK_END (R157), at the coming tick. -/
def execClearSoakEnd (a : AlarmId) (s : State) : Host.Outcome State Fault Refusal :=
  .next (ifOutcome (fun s t => (s.alarm a).state == .clearing && (t.alarm a).state != .clearing)
    (atTick (State.clearSoakStep a)) s)

/-- ACO_PRESS (R169): the eighth local frame start that finds the input pressed is the coming one. -/
def execAcoPress (s : State) : Host.Outcome State Fault Refusal :=
  .next (ifOutcome (fun s t => s.alu.pressArmed && !t.alu.pressArmed)
    (fun s => s.pressInput.openFrame.once .press State.pressStep) s)

/-- MSTN_TIMER_EXPIRY (R188), at the coming tick. -/
def execMstnTimerExpiry (s : State) : Host.Outcome State Fault Refusal :=
  .next (ifOutcome (fun s t => s.mci.mstn.isSome && t.mci.mstn.isNone) (atTick fun s => s.once .mstn State.mstnTick) s)

end Sys2Proof.Machine
end

