-- ==== Sys2Proof/Machine/ManagementCommands.lean ====
section
/-! DEFINITION. Meanings of the rows of the management channel (Section 10 and the owners' command rules). -/

namespace Sys2Proof.Machine

open Sys2Proof

/-- COMMAND_MESSAGE (R185, R187, R188, R190): bytes taken from the source port one after the other, in the receive
state as it stands (log entry 20). -/
def execCommandMessage (bytes : List Byte) (s : State) : Host.Outcome State Fault Refusal :=
  .next (s.takeBytes bytes)

/-- READ (R193). -/
def execRead (tag object first count : Byte) (s : State) : Host.Outcome State Fault Refusal :=
  .next (s.takeCommand tag 1 [object, first, count])

/-- READ_UNIT (R180, R197). -/
def execReadUnit (tag first count : Byte) (s : State) : Host.Outcome State Fault Refusal :=
  .next (s.takeCommand tag 1 [10, first, count])

/-- WRITE (R194). -/
def execWrite (tag object first : Byte) (entries : List Byte) (s : State) : Host.Outcome State Fault Refusal :=
  .next (s.takeCommand tag 2 (object :: first :: entries))

/-- WRITE_PORT (R23). -/
def execWritePort (tag first : Byte) (entries : List Byte) (s : State) : Host.Outcome State Fault Refusal :=
  .next (s.takeCommand tag 2 (0 :: first :: entries))

/-- WRITE_GROUP (R42 to R45). -/
def execWriteGroup (tag first : Byte) (entries : List Byte) (s : State) : Host.Outcome State Fault Refusal :=
  .next (s.takeCommand tag 2 (1 :: first :: entries))

/-- WRITE_MAP (R30, R31). -/
def execWriteMap (tag first : Byte) (entries : List Byte) (s : State) : Host.Outcome State Fault Refusal :=
  .next (s.takeCommand tag 2 (2 :: first :: entries))

/-- WRITE_CABLE (R103). -/
def execWriteCable (tag first : Byte) (entries : List Byte) (s : State) : Host.Outcome State Fault Refusal :=
  .next (s.takeCommand tag 2 (3 :: first :: entries))

/-- WRITE_REFERENCE (R130). -/
def execWriteReference (tag first : Byte) (entries : List Byte) (s : State) : Host.Outcome State Fault Refusal :=
  .next (s.takeCommand tag 2 (4 :: first :: entries))

/-- WRITE_TIMING (R131). -/
def execWriteTiming (tag first : Byte) (entries : List Byte) (s : State) : Host.Outcome State Fault Refusal :=
  .next (s.takeCommand tag 2 (5 :: first :: entries))

/-- WRITE_PROFILE (R154). -/
def execWriteProfile (tag first : Byte) (entries : List Byte) (s : State) : Host.Outcome State Fault Refusal :=
  .next (s.takeCommand tag 2 (6 :: first :: entries))

/-- WRITE_ASSIGN (R155). -/
def execWriteAssign (tag first : Byte) (entries : List Byte) (s : State) : Host.Outcome State Fault Refusal :=
  .next (s.takeCommand tag 2 (7 :: first :: entries))

/-- WRITE_UNIT (R197). -/
def execWriteUnit (tag first : Byte) (entries : List Byte) (s : State) : Host.Outcome State Fault Refusal :=
  .next (s.takeCommand tag 2 (10 :: first :: entries))

/-- REQUEST_LOCK (R52). -/
def execRequestLock (tag group : Byte) (s : State) : Host.Outcome State Fault Refusal :=
  .next (s.takeCommand tag 3 [group, 15])

/-- REQUEST_FORCE (R52). -/
def execRequestForce (tag group : Byte) (s : State) : Host.Outcome State Fault Refusal :=
  .next (s.takeCommand tag 3 [group, 13])

/-- REQUEST_MAN_P (R53). -/
def execRequestManP (tag group : Byte) (s : State) : Host.Outcome State Fault Refusal :=
  .next (s.takeCommand tag 3 [group, 8])

/-- REQUEST_MAN_W (R53). -/
def execRequestManW (tag group : Byte) (s : State) : Host.Outcome State Fault Refusal :=
  .next (s.takeCommand tag 3 [group, 7])

/-- REQUEST_CLEAR (R54). -/
def execRequestClear (tag group : Byte) (s : State) : Host.Outcome State Fault Refusal :=
  .next (s.takeCommand tag 3 [group, 0])

/-- PATCH_OPEN (R122, R123). -/
def execPatchOpen (tag port minutes override : Byte) (s : State) : Host.Outcome State Fault Refusal :=
  .next (s.takeCommand tag 4 [port, 1, minutes, override])

/-- PATCH_CLOSE (R125). -/
def execPatchClose (tag port minutes override : Byte) (s : State) : Host.Outcome State Fault Refusal :=
  .next (s.takeCommand tag 4 [port, 0, minutes, override])

/-- MEASURE (R119). -/
def execMeasure (tag port burst : Byte) (s : State) : Host.Outcome State Fault Refusal :=
  .next (s.takeCommand tag 5 [port, burst])

/-- FETCH (R177, R178). -/
def execFetch (tag n : Byte) (s : State) : Host.Outcome State Fault Refusal :=
  .next (s.takeCommand tag 6 [n])

/-- CLEAR (R163 to R165). -/
def execClear (tag source kind : Byte) (s : State) : Host.Outcome State Fault Refusal :=
  .next (s.takeCommand tag 7 [source, kind])

/-- ACO (R169). -/
def execAco (tag : Byte) (s : State) : Host.Outcome State Fault Refusal :=
  .next (s.takeCommand tag 8 [])

/-- CALIBRATE (R87). -/
def execCalibrate (tag : Byte) (s : State) : Host.Outcome State Fault Refusal :=
  .next (s.takeCommand tag 9 [])

/-- REINIT (R196). -/
def execReinit (tag : Byte) (s : State) : Host.Outcome State Fault Refusal :=
  .next (s.takeCommand tag 10 [])

/-- RESTART (R196). -/
def execRestart (tag : Byte) (s : State) : Host.Outcome State Fault Refusal :=
  .next (s.takeCommand tag 11 [])

/-- REPLY_BEGIN (R191), at the coming local frame start; a reply whose last byte has been sent leaves first. -/
def execReplyBegin (s : State) : Host.Outcome State Fault Refusal :=
  .next (ifOutcome (fun s t => (s.mci.sending.isNone || s.replyDone) && t.mci.sending == some 0)
    (fun s => s.openFrame.replySentStep.replyBeginStep) s)

/-- REPLY_SENT (R191), at the coming local frame start. -/
def execReplySent (s : State) : Host.Outcome State Fault Refusal :=
  .next (ifOutcome (fun s _ => s.replyDone) (fun s => s.openFrame.replySentStep) s)

/-- DEFERRED_CHANGE_APPLIED (R195), at the coming local frame start. -/
def execDeferredChangeApplied (s : State) : Host.Outcome State Fault Refusal :=
  .next (ifOutcome (fun s _ => s.replyDone && s.replyEffect == .deferred && s.changePending)
    (fun s => s.openFrame.replySentStep) s)

end Sys2Proof.Machine
end

