-- ==== Sys2Proof/Machine/Dispatch.lean ====
section
/-! DEFINITION. One arm per command, each one call of its meaning. -/

namespace Sys2Proof.Machine

open Sys2Proof

/-- The effect of a command on everything but the queue of waiting commands. -/
def exec (i : Instr) (s : State) : Host.Outcome State Fault Refusal :=
  match i with
  | .reset straps => Sys2Proof.Machine.execReset straps s
  | .pendingRestartActs straps => Sys2Proof.Machine.execPendingRestartActs straps s
  | .signalDetectLow p => Sys2Proof.Machine.execSignalDetectLow p s
  | .signalDetectHigh p => Sys2Proof.Machine.execSignalDetectHigh p s
  | .losDebounceEnd p => Sys2Proof.Machine.execLosDebounceEnd p s
  | .find p window offset => Sys2Proof.Machine.execFind p window offset s
  | .confirmWord p word => Sys2Proof.Machine.execConfirmWord p word s
  | .frameReceivedInSync p arrival frame => Sys2Proof.Machine.execFrameReceivedInSync p arrival frame s
  | .syncLoss p => Sys2Proof.Machine.execSyncLoss p s
  | .multiframeAligned p => Sys2Proof.Machine.execMultiframeAligned p s
  | .multiframeAlignmentLost p index => Sys2Proof.Machine.execMultiframeAlignmentLost p index s
  | .lofPresent p => Sys2Proof.Machine.execLofPresent p s
  | .lofAbsent p => Sys2Proof.Machine.execLofAbsent p s
  | .localFrameStart inputs => Sys2Proof.Machine.execLocalFrameStart inputs s
  | .firstRead p written => Sys2Proof.Machine.execFirstRead p written s
  | .stationLosEnd j edges => Sys2Proof.Machine.execStationLosEnd j edges s
  | .oneSecondTick => Sys2Proof.Machine.execOneSecondTick s
  | .excAbsent p => Sys2Proof.Machine.execExcAbsent p s
  | .degPresent p => Sys2Proof.Machine.execDegPresent p s
  | .degAbsent p => Sys2Proof.Machine.execDegAbsent p s
  | .holdOffExpiry g m c => Sys2Proof.Machine.execHoldOffExpiry g m c s
  | .wtrExpiry g => Sys2Proof.Machine.execWtrExpiry g s
  | .switchSignalAccepted g => Sys2Proof.Machine.execSwitchSignalAccepted g s
  | .confirmTimerExpiry g => Sys2Proof.Machine.execConfirmTimerExpiry g s
  | .psfEnd g => Sys2Proof.Machine.execPsfEnd g s
  | .stationPulse j pulse => Sys2Proof.Machine.execStationPulse j pulse s
  | .stampComplete v => Sys2Proof.Machine.execStampComplete v s
  | .phaseSampleMissing k => Sys2Proof.Machine.execPhaseSampleMissing k s
  | .refPresent k => Sys2Proof.Machine.execRefPresent k s
  | .refAbsent k => Sys2Proof.Machine.execRefAbsent k s
  | .enterLocked => Sys2Proof.Machine.execEnterLocked s
  | .unlock => Sys2Proof.Machine.execUnlock s
  | .referenceHoldOffExpiry k => Sys2Proof.Machine.execReferenceHoldOffExpiry k s
  | .referenceWtrExpiry k => Sys2Proof.Machine.execReferenceWtrExpiry k s
  | .qualityAccepted p => Sys2Proof.Machine.execQualityAccepted p s
  | .calibrationTurnEnd readings => Sys2Proof.Machine.execCalibrationTurnEnd readings s
  | .traceAccepted p => Sys2Proof.Machine.execTraceAccepted p s
  | .echo p => Sys2Proof.Machine.execEcho p s
  | .auditStart => Sys2Proof.Machine.execAuditStart s
  | .markerDeparture => Sys2Proof.Machine.execMarkerDeparture s
  | .echoTimeout => Sys2Proof.Machine.execEchoTimeout s
  | .suspension p => Sys2Proof.Machine.execSuspension p s
  | .periodicTimerExpiry p => Sys2Proof.Machine.execPeriodicTimerExpiry p s
  | .windowExpired p => Sys2Proof.Machine.execWindowExpired p s
  | .raiseSoakEnd a => Sys2Proof.Machine.execRaiseSoakEnd a s
  | .clearSoakEnd a => Sys2Proof.Machine.execClearSoakEnd a s
  | .acoPress => Sys2Proof.Machine.execAcoPress s
  | .mstnTimerExpiry => Sys2Proof.Machine.execMstnTimerExpiry s
  | .commandMessage bytes => Sys2Proof.Machine.execCommandMessage bytes s
  | .read tag object first count => Sys2Proof.Machine.execRead tag object first count s
  | .readUnit tag first count => Sys2Proof.Machine.execReadUnit tag first count s
  | .write tag object first entries => Sys2Proof.Machine.execWrite tag object first entries s
  | .writePort tag first entries => Sys2Proof.Machine.execWritePort tag first entries s
  | .writeGroup tag first entries => Sys2Proof.Machine.execWriteGroup tag first entries s
  | .writeMap tag first entries => Sys2Proof.Machine.execWriteMap tag first entries s
  | .writeCable tag first entries => Sys2Proof.Machine.execWriteCable tag first entries s
  | .writeReference tag first entries => Sys2Proof.Machine.execWriteReference tag first entries s
  | .writeTiming tag first entries => Sys2Proof.Machine.execWriteTiming tag first entries s
  | .writeProfile tag first entries => Sys2Proof.Machine.execWriteProfile tag first entries s
  | .writeAssign tag first entries => Sys2Proof.Machine.execWriteAssign tag first entries s
  | .writeUnit tag first entries => Sys2Proof.Machine.execWriteUnit tag first entries s
  | .requestLock tag group => Sys2Proof.Machine.execRequestLock tag group s
  | .requestForce tag group => Sys2Proof.Machine.execRequestForce tag group s
  | .requestManP tag group => Sys2Proof.Machine.execRequestManP tag group s
  | .requestManW tag group => Sys2Proof.Machine.execRequestManW tag group s
  | .requestClear tag group => Sys2Proof.Machine.execRequestClear tag group s
  | .patchOpen tag port minutes override => Sys2Proof.Machine.execPatchOpen tag port minutes override s
  | .patchClose tag port minutes override => Sys2Proof.Machine.execPatchClose tag port minutes override s
  | .measure tag port burst => Sys2Proof.Machine.execMeasure tag port burst s
  | .fetch tag n => Sys2Proof.Machine.execFetch tag n s
  | .clear tag source kind => Sys2Proof.Machine.execClear tag source kind s
  | .aco tag => Sys2Proof.Machine.execAco tag s
  | .calibrate tag => Sys2Proof.Machine.execCalibrate tag s
  | .reinit tag => Sys2Proof.Machine.execReinit tag s
  | .restart tag => Sys2Proof.Machine.execRestart tag s
  | .replyBegin => Sys2Proof.Machine.execReplyBegin s
  | .replySent => Sys2Proof.Machine.execReplySent s
  | .deferredChangeApplied => Sys2Proof.Machine.execDeferredChangeApplied s

end Sys2Proof.Machine
end

