-- ==== Sys2Proof/WellFormed.lean ====
section
/-! DEFINITION. Which commands are well formed: operands in the ranges that their rules give. -/

namespace Sys2Proof

/-- An arrival of the running local frame: latched at most 4,097 clocks after its start (R128). -/
def Arrival.wf (a : Arrival) : Bool := decide (a.clk ≤ 4097)

/-- A pulse edge: an arrival of the running local frame behind 1 to 256 edges (R135). -/
def PulseEdge.wf (x : PulseEdge) : Bool := x.arrival.wf && decide (1 ≤ x.edges ∧ x.edges ≤ 256)

/-- Bytes written of a frame: at most the frame (R14). -/
def wfWritten (n : Nat) : Bool := decide (n ≤ Config.frameBytes)

/-- What the outside gives at a local frame start: bytes written in range (R14), and pulses inside the local frame (R135). -/
def FrameInputs.wf (x : FrameInputs) : Bool := x.written.toList.all wfWritten && x.pulses.toList.all Arrival.wf

/-- The readings of a calibration turn: 0 to 64 taps (R85). -/
def wfReadings (r : Vector Nat 64) : Bool := r.toList.all fun n => decide (n ≤ 64)

/-- The bytes of a message on the wire: opening byte, length, 3 to 60 body bytes and CRC (R185, R202). -/
def wfMessage (bs : List Byte) : Bool :=
  decide (7 ≤ bs.length ∧ bs.length ≤ 64) && decide ((bs.getD 1 0).toNat + 4 = bs.length)

/-- The entry bytes of a WRITE: the body of 5 bytes and the entries is at most 60 (R202). -/
def wfEntries (es : List Byte) : Bool := decide (es.length ≤ 55)

/-- A well-formed command. -/
def wellFormed (i : Instr) : Bool :=
  match i with
  | .frameReceivedInSync _ a _ => a.wf
  | .localFrameStart x => x.wf
  | .firstRead _ n => wfWritten n
  | .stationPulse _ x => x.wf
  | .calibrationTurnEnd r => wfReadings r
  | .commandMessage bs => wfMessage bs
  | .write _ _ _ es => wfEntries es
  | .writePort _ _ es => wfEntries es
  | .writeGroup _ _ es => wfEntries es
  | .writeMap _ _ es => wfEntries es
  | .writeCable _ _ es => wfEntries es
  | .writeReference _ _ es => wfEntries es
  | .writeTiming _ _ es => wfEntries es
  | .writeProfile _ _ es => wfEntries es
  | .writeAssign _ _ es => wfEntries es
  | .writeUnit _ _ es => wfEntries es
  | .reset _ => true
  | .pendingRestartActs _ => true
  | .signalDetectLow _ => true
  | .signalDetectHigh _ => true
  | .losDebounceEnd _ => true
  | .find _ _ _ => true
  | .confirmWord _ _ => true
  | .syncLoss _ => true
  | .multiframeAligned _ => true
  | .multiframeAlignmentLost _ _ => true
  | .lofPresent _ => true
  | .lofAbsent _ => true
  | .stationLosEnd _ _ => true
  | .oneSecondTick => true
  | .excAbsent _ => true
  | .degPresent _ => true
  | .degAbsent _ => true
  | .holdOffExpiry _ _ _ => true
  | .wtrExpiry _ => true
  | .switchSignalAccepted _ => true
  | .confirmTimerExpiry _ => true
  | .psfEnd _ => true
  | .stampComplete _ => true
  | .phaseSampleMissing _ => true
  | .refPresent _ => true
  | .refAbsent _ => true
  | .enterLocked => true
  | .unlock => true
  | .referenceHoldOffExpiry _ => true
  | .referenceWtrExpiry _ => true
  | .qualityAccepted _ => true
  | .traceAccepted _ => true
  | .echo _ => true
  | .auditStart => true
  | .markerDeparture => true
  | .echoTimeout => true
  | .suspension _ => true
  | .periodicTimerExpiry _ => true
  | .windowExpired _ => true
  | .raiseSoakEnd _ => true
  | .clearSoakEnd _ => true
  | .acoPress => true
  | .mstnTimerExpiry => true
  | .read _ _ _ _ => true
  | .readUnit _ _ _ => true
  | .requestLock _ _ => true
  | .requestForce _ _ => true
  | .requestManP _ _ => true
  | .requestManW _ _ => true
  | .requestClear _ _ => true
  | .patchOpen _ _ _ _ => true
  | .patchClose _ _ _ _ => true
  | .measure _ _ _ => true
  | .fetch _ _ => true
  | .clear _ _ _ => true
  | .aco _ => true
  | .calibrate _ => true
  | .reinit _ => true
  | .restart _ => true
  | .replyBegin => true
  | .replySent => true
  | .deferredChangeApplied => true

end Sys2Proof
end

