-- ==== Sys2Proof/Safety.lean ====
section
/-! DEFINITION. What counts as a safe run: the laws of the device that the spec names, one for each block, and the
blocks of the state by which a claim says what a command leaves as it was. -/

namespace Sys2Proof.Machine

open Sys2Proof

/-! ## Blocks of the state -/

/-- The parts of the state that a command may leave as they were. -/
inductive Block where
  | pending | inputs | moment | ports | ssw | records | groups | imu | csv | tmu | alu | queue | mci
  deriving DecidableEq, Repr

/-- The Group Table records alone. -/
def State.records (s : State) : Vector GroupRecord 8 := s.groups.map Group.record

/-- A block is the same in two states. -/
def Block.same (b : Block) (s t : State) : Prop :=
  match b with
  | .pending => t.pending = s.pending
  | .inputs => t.inputs = s.inputs
  | .moment => t.moment = s.moment
  | .ports => t.ports = s.ports
  | .ssw => t.ssw = s.ssw
  | .records => t.records = s.records
  | .groups => t.groups = s.groups
  | .imu => t.imu = s.imu
  | .csv => t.csv = s.csv
  | .tmu => t.tmu = s.tmu
  | .alu => t.alu = s.alu
  | .queue => t.queue = s.queue
  | .mci => t.mci = s.mci

/-- The blocks `bs` are the same in two states. -/
def Agree (bs : List Block) (s t : State) : Prop := ∀ b ∈ bs, b.same s t

/-- A local frame start that comes at no one-second tick, releases no reply, and changes no loopback. -/
def State.Undisturbed (s : State) : Prop :=
  (s.tmu.started = false ∨ s.tmu.frameCount ≠ 7999) ∧ s.replyDone = false ∧
    ∀ p, (s.port p).loopback = (s.port p).settings.loopback

/-! ## What a command reports -/

/-- A record of `r` has been queued behind the records of `s`, and NEW-RECORD is set (R175, R179); nothing is said
where a record may have been discarded (R176). -/
def Reported (r : Report) (s t : State) : Prop :=
  t.queue.records.length < 64 ∨ (t.queue.lost = s.queue.lost ∧ s.queue.lost < 65535) →
    t.queue.news.newRecord = true ∧ ∃ e ∈ t.queue.records.drop s.queue.records.length, e.report = r

/-- Presence `b` has been delivered to the alarm cell `a` of `s`: the cell's flag follows its mode (R160), its state,
soak count and held severity follow its state before (R156 to R159), an entry of a CRIT or MAJ cell into ACTIVE has
energized AUD (R169), and a return from LATCHED is reported (R158, R162). A presence that is no change leaves the cell. -/
def Delivered (a : AlarmId) (b : Bool) (s t : State) : Prop :=
  let x := s.alarm a
  let y := t.alarm a
  let e := s.entryOf a
  y.present = b ∧ (x.present = b → y = x) ∧
  (x.present ≠ b →
    y.flag = (match e.mode with
      | .auto => b
      | .latch => x.flag || b
      | .report => false
      | .off => false) ∧
    (e.mode = .off → y.state = x.state ∧ y.soak = x.soak ∧ y.held = x.held) ∧
    (e.mode ≠ .off →
      (y.state, y.soak, y.held) =
        (match x.state, b with
        | .idle, true => (.raising, some 0, x.held)
        | .clearing, true => (.active, none, x.held)
        | .latched, true => (.active, none, none)
        | .raising, false => (.idle, none, x.held)
        | .active, false => (.clearing, some 0, x.held)
        | z, _ => (z, x.soak, x.held)) ∧
      (x.state = .clearing ∨ x.state = .latched → b = true → e.severity = .crit ∨ e.severity = .maj →
        t.alu.relays.aud = true) ∧
      (x.state = .latched → b = true → Reported (.alarm a .raised e.severity x.value) s t)))

/-- The patch marks of `s` after the verdict of port `p` has been set to `v`: VERIFIED removes the mark of the member on
the port, and every other mark stays (R55). -/
def MarksFollow (p : Fin 8) (v : Verdict) (s t : State) : Prop :=
  ∀ g, (t.group g).markW = ((s.group g).markW && !(v == .verified && s.membership p == some (g, .w))) ∧
    (t.group g).markP = ((s.group g).markP && !(v == .verified && s.membership p == some (g, .p)))

/-- The enabled candidate of port `p` of `s` after the verdict of the port has been set to `v`: MISCONNECTED, LOOPED and
PATCHING fail it from WAIT and AVAILABLE (R138), and the end of such a verdict takes a FAILED one without a flag condition
to WAIT with its WTR count at 0, or with a WTR of 0 to AVAILABLE (R139). -/
def CandidateFollows (p : Fin 8) (v : Verdict) (s t : State) : Prop :=
  let x := s.cand (portCand p)
  let y := t.cand (portCand p)
  let cause : Verdict → Prop := fun w => w = .misconnected ∨ w = .looped ∨ w = .patching
  x.entry.enabled = true →
    (cause v → x.state = .wait ∨ x.state = .available → y.state = .failed ∧ y.wtr = none) ∧
    (¬cause v → cause (s.cable p).verdict → x.state = .failed → s.flagCondition (portCand p) = false →
      (0 < s.tmu.settings.wtr → y.state = .wait ∧ y.wtr = some 0) ∧
      (s.tmu.settings.wtr = 0 → y.state = .available ∧ y.wtr = none))

/-! ## Laws -/

/-- The frame generator's law: I and FW within −2047 … +2047, ACC within 0 … 65,535 (R128, R148). -/
def State.GeneratorLaw (s : State) : Prop :=
  -2047 ≤ s.tmu.integral ∧ s.tmu.integral ≤ 2047 ∧ -2047 ≤ s.tmu.fw ∧ s.tmu.fw ≤ 2047 ∧
    0 ≤ s.tmu.acc ∧ s.tmu.acc ≤ 65535

/-- The selection's law (7.5, 7.6): a reference is selected in ACQUIRE and LOCKED and in no other timing state, a
candidate is DISABLED exactly while its entry is not enabled, and outside the instant of a local frame start every
eligible candidate is AVAILABLE and the selected one is eligible (R140 to R142); in HOLDOVER FW equals I, and in
FREE-RUN both are 0 (R145). -/
def State.SelectionLaw (s : State) : Prop :=
  (s.tmu.selected.isSome = true ↔ (s.tmu.state = .acquire ∨ s.tmu.state = .locked)) ∧
  (∀ k, (s.cand k).state = .disabled ↔ (s.cand k).entry.enabled = false) ∧
  (s.moment.opened = false →
    (∀ k, (s.cand k).eligible = true → (s.cand k).state = .available) ∧
    (∀ k, s.tmu.selected = some k → (s.cand k).eligible = true)) ∧
  (s.tmu.state = .holdover → s.tmu.fw = s.tmu.integral) ∧
  (s.tmu.state = .freeRun → s.tmu.fw = 0 ∧ s.tmu.integral = 0)

/-- The Record Queue's law: at most 64 records whose sequence numbers run without a gap up to the next one to be
given (R175), and QOVF is present exactly while the lost count is above 0 (R176). -/
def State.QueueLaw (s : State) : Prop :=
  s.queue.records.length ≤ 64 ∧ s.queue.sequence < 65536 ∧
  (∀ i (h : i < s.queue.records.length),
    (s.queue.records[i].sequence + (s.queue.records.length - i)) % 65536 = s.queue.sequence) ∧
  (s.alarm .qovf).present = s.qovf

/-- State `t` with the reply of a command that was executed in it queued last (R190). -/
def State.answered (tag code : Byte) (a : Answer) (t : State) : State :=
  { t with mci := { t.mci with replies := t.mci.replies ++ [t.replyOf tag code a] } }

/-- The reply queue's law: at most 2 replies, and only a queued reply is being sent (R190, R191). -/
def State.ReplyLaw (s : State) : Prop :=
  s.mci.replies.length ≤ 2 ∧ (s.mci.sending.isSome = true → s.mci.replies ≠ [])

/-- The members that a record gives (R41). -/
def GroupRecord.hasMember (r : GroupRecord) (p : Fin 8) : Prop :=
  r.working = some p ∨ (r.working.isSome = true ∧ r.protection = some p)

/-- A record names two different ports, and no protection port without a working one (R43). -/
def GroupRecord.sound (r : GroupRecord) : Prop :=
  (r.working.isSome = true → r.working ≠ r.protection) ∧ (r.working = none → r.protection = none)

/-- The Group Table's law: sound records, and no port a member of two groups, the pending record of the management
group counted with the stored ones (R43, R195). -/
def State.GroupLaw (s : State) : Prop :=
  (∀ g, (s.group g).record.sound) ∧
  (∀ g h p, (s.group g).record.hasMember p → (s.group h).record.hasMember p → g = h) ∧
  (∀ r, s.mci.pendingRecord = some r →
    r.sound ∧ ∀ h p, r.hasMember p → (s.group h).record.hasMember p → h = s.mci.group)

/-- No two entries of a map are mapped to the same group and line slot (R30). -/
def uniqueMap (m : Vector MapEntry 256) : Prop :=
  ∀ i j : Fin 256, m[i] = m[j] → m[i] ≠ .unequipped → i = j

/-- The Slot Map's law: line slots used once in both copies (R29, R30), and a mapped group is defined and is not about
to become undefined (R30, R44, R195). -/
def State.MapLaw (s : State) : Prop :=
  uniqueMap s.ssw.storedMap ∧ uniqueMap s.ssw.mapInUse ∧
  (∀ i : Fin 256, ∀ g n, s.ssw.storedMap[i] = .mapped g n →
    (s.group g).defined = true ∧
    ∀ r, s.mci.pendingRecord = some r → g = s.mci.group → r.working.isSome = true)

/-- Only a group with a protection member selects it (R60). -/
def State.SelectorLaw (s : State) : Prop := ∀ g, (s.group g).selector = .p → (s.group g).protected = true

/-- The verniers' law: a CAL in force is 24 to 63, a vernier in fault has none, and CAL-FAULT is a fault (R83, R86). -/
def State.VernierLaw (s : State) : Prop :=
  ∀ v, (∀ n, (s.vernier v).cal = some n → 24 ≤ n ∧ n ≤ 63) ∧
    ((s.vernier v).faulted = true → (s.vernier v).cal = none) ∧
    ((s.vernier v).state = .calFault → (s.vernier v).faulted = true)

/-- The audit queue's law: at most one entry for a port, none for a port whose audit is active or suspended, and no
active audit on a suspended port (R115, R120). -/
def State.AuditLaw (s : State) : Prop :=
  (s.csv.audits.map AuditEntry.port).Nodup ∧
  (∀ e ∈ s.csv.audits, s.auditActive e.port = false ∧ (s.cable e.port).suspended = false) ∧
  (∀ p, s.auditActive p = true → (s.cable p).suspended = false)

/-- An outstanding slot departed no later than local frame `frame`. -/
def SampleSlot.departedBy (frame : Nat) (x : SampleSlot) : Bool :=
  match x with
  | .outstanding _ n _ => decide (n ≤ frame)
  | .pending => true
  | .present _ => true
  | .missing => true

/-- The markers' law: bursts of at least one sample (R102, R103, R119), an active audit with a slot still to resolve,
none of which departs after the running local frame (R93, R97), and outside the instant of a local frame start no marker
and no echo placed in a coming frame (R112, R113). -/
def State.MarkerLaw (s : State) : Prop :=
  (∀ p, 0 < (s.cable p).record.burst) ∧ (∀ e ∈ s.csv.audits, e.burst ≠ some 0) ∧
  (∀ b, s.imu.burst = some b → b.resolved = false ∧ b.slots.all (SampleSlot.departedBy s.tmu.frameNo) = true) ∧
  (s.moment.opened = false → ∀ p, (s.cable p).markerOut = false ∧ (s.cable p).echoOut = none)

/-- The patch windows' law: PATCHING is the verdict, and the PATCH profile in use, exactly while a window is open; a
pending verdict needs a window and is not PATCHING; no periodic timer runs in a window or a suspension (R117, R123 to
R125, R167). -/
def State.WindowLaw (s : State) : Prop :=
  ∀ p, ((s.cable p).window.isSome = true ↔ (s.cable p).verdict = .patching) ∧
    s.alu.patched[p] = (s.cable p).window.isSome ∧
    ((s.cable p).pendingVerdict.isSome = true → (s.cable p).window.isSome = true) ∧
    (s.cable p).pendingVerdict ≠ some .patching ∧
    ((s.cable p).window.isSome = true ∨ (s.cable p).suspended = true → (s.cable p).timer = none)

/-- The receivers' law: LOS holds a receiver in HUNT and is absent in terminal loopback (R1, R5, R21), multiframe
alignment is kept in SYNC only (R4), and out of SYNC there is no quality, no trace and no verdict of them (R107, R110,
R124, R133). -/
def State.ReceiverLaw (s : State) : Prop :=
  ∀ p, ((s.port p).los = true → (s.port p).align = .hunt ∧ (s.port p).loopback ≠ .terminal) ∧
    ((s.port p).aligned = true → (s.port p).align = .sync) ∧
    ((s.port p).align ≠ .sync →
      s.tmu.quality[p] = QualityFilter.empty ∧ (s.cable p).accepted = none ∧ (s.cable p).traceCandidate = none ∧
      (s.cable p).pendingVerdict = none ∧ ((s.cable p).verdict = .unverified ∨ (s.cable p).verdict = .patching))

/-- The action flags' law (R160). -/
def State.FlagLaw (s : State) : Prop :=
  ∀ a, match (s.entryOf a).mode with
    | .auto => (s.alarm a).flag = (s.alarm a).present
    | .latch => (s.alarm a).present = true → (s.alarm a).flag = true
    | .report => (s.alarm a).flag = false
    | .off => (s.alarm a).flag = false

/-- The defect that an alarm cell's owner holds (R153). -/
def State.defect (s : State) (a : AlarmId) : Bool :=
  match a with
  | .port p .los => (s.port p).los
  | .port p .lof => (s.port p).lof
  | .port p .exc => (s.port p).exc
  | .port p .tim => (s.cable p).verdict == .misconnected
  | .port p .loop => (s.cable p).verdict == .looped
  | .port p .deg => (s.port p).deg
  | .port p .len => (s.cable p).verdict == .length
  | .port p .slip => (s.port p).slip
  | .port p .aud => (s.cable p).suspended
  | .port p .ref => (s.cand (portCand p)).ref
  | .psf g => (s.group g).psf.isSome
  | .unprot g => (s.group g).unprot
  | .stationLos i => (s.tmu.stations[i]).los
  | .stationRef i => (s.cand (stationCand i)).ref
  | .hold => s.tmu.state == .holdover
  | .free => s.tmu.state == .freeRun
  | .cal => s.imu.calDefect
  | .qovf => s.qovf
  | .mstn => s.mci.mstn.isSome
  | .mlost => s.mci.mlost

/-- The delivery law: every alarm cell holds the presence of its owner's defect (R153), and a candidate that is not
enabled has no REF (R137). -/
def State.PresenceLaw (s : State) : Prop :=
  (∀ a, (s.alarm a).present = s.defect a) ∧
  (∀ k, (s.cand k).entry.enabled = false → (s.cand k).ref = false)

/-- The relays' law: CRIT, MAJ and MIN are energized exactly while a cell counts toward them (R168). -/
def State.RelayLaw (s : State) : Prop :=
  s.alu.relays.crit = s.relayOf .crit ∧ s.alu.relays.maj = s.relayOf .maj ∧ s.alu.relays.min = s.relayOf .min

end Sys2Proof.Machine
end

