-- ==== Sys2Proof/Certificates/Slice0/Obligations.lean ====
section
/-! DEFINITION. The obligations: what the commands do and leave alone, by the rules of the spec, and the laws that
every step keeps. -/

open Sys2Proof Sys2Proof.Machine

/-! ## Steps -/

/-- A step takes the command at the front of the queue and is that command's effect with the queue's rest. -/
def Obligations.StepTakesFront : Prop :=
  ∀ (c : Instr) (rest : List Instr) (s : State), s.pending = c :: rest → step s = exec c { s with pending := rest }

/-- THE MODEL'S CHOICE (log entry 1): on an empty queue one edge of the measurement clock passes. An edge that does
not reach the coming local frame start moves the time counter on by one and leaves the ports, the Slot Switch, the
Group Table, the management channel, the inputs and the queue as they were; an edge that reaches it, or an instant
already open, is a local frame start with the inputs as they stand. -/
def Obligations.EmptyQueueClockEdge : Prop :=
  ∀ s : State, s.pending = [] →
    (s.moment.opened = false → s.imu.clk + 1 < s.tmu.nextStart →
      ∃ t, step s = .next t ∧ t.imu.clk = s.imu.clk + 1 ∧
        Agree [.pending, .inputs, .moment, .ports, .ssw, .records, .mci] s t) ∧
    (s.moment.opened = true ∨ s.tmu.nextStart ≤ s.imu.clk + 1 →
      step s = exec (.localFrameStart s.inputs.frame) s)

/-- Every law of the part holds of the state right after reset. -/
def Obligations.LawsHoldAtReset : Prop :=
  State.reset.GeneratorLaw ∧ State.reset.SelectionLaw ∧ State.reset.QueueLaw ∧ State.reset.ReplyLaw ∧
    State.reset.GroupLaw ∧ State.reset.MapLaw ∧ State.reset.SelectorLaw ∧ State.reset.VernierLaw ∧
    State.reset.AuditLaw ∧ State.reset.WindowLaw ∧ State.reset.ReceiverLaw ∧ State.reset.FlagLaw ∧
    State.reset.RelayLaw ∧ State.reset.PresenceLaw ∧ State.reset.MarkerLaw

/-- RESET is a cold restart: from any state the straps are sampled, every block takes its cold-restart values, the
RESTART record with sequence number 0 is the only one queued, NEW-RECORD is the only news, and the presence that the
owners deliver is LOS of the ports whose signal-detect input is low, LOF of every port, LOS of both station inputs
and FREE. Each of those cells is RAISING with its soak at 0 and its flag set, but FREE's is clear; every other cell
is IDLE and absent; no profile is PATCH, no port is patched and the press count is 0. The commands that wait and the
levels of the signal-detect inputs stay. The values that no rule gives (a search at bit 0, marks at clock 0, no
source port, a running second available in signal, the press not armed) are the model's choice (log entry 10). -/
def Obligations.ResetIsAColdRestart : Prop :=
  ∀ (x : Straps) (s : State), ∃ t, exec (.reset x) s = .next t ∧
    t.pending = s.pending ∧ t.inputs = { s.inputs with straps := x } ∧ t.moment = .closed ∧
    (∀ p, t.port p = Port.cold (s.port p).sd) ∧ t.ssw = .cold x.defmap ∧ (∀ g, t.group g = Group.cold x g) ∧
    t.imu = .cold ∧ t.csv = .cold x.station ∧ t.tmu = .cold ∧ t.mci = .cold x ∧
    t.queue =
      { records := [{ sequence := 0, seconds := 0, frame := 0, report := .restart .cold }], sequence := 1, lost := 0,
        news := { News.clear with newRecord := true } } ∧
    (∀ a,
      let here : Bool := match a with
        | .port p .los => !(s.port p).sd
        | .port _ .lof => true
        | .stationLos _ => true
        | .free => true
        | _ => false
      t.alarm a =
        if here then
          { present := true, state := .raising, soak := some 0, flag := a != .free, held := none, value := none }
        else { present := false, state := .idle, soak := none, flag := false, held := none, value := none }) ∧
    t.alu.profiles = Alu.cold.profiles ∧ t.alu.assigned = Alu.cold.assigned ∧ t.alu.relays = Alu.cold.relays ∧
    t.alu.patched = Vector.replicate 8 false ∧ t.alu.pressCount = 0 ∧ t.alu.pressArmed = false

/-! ## Section 1: line ports -/

/-- SIGNAL_DETECT_LOW makes LOS present at once, ends the second's availability and holds the receiver in HUNT with
no multiframe alignment, and LOS is delivered to its alarm cell; in terminal loopback only the input's level and the
debounce are touched. No other port, no part of the Slot Switch or of the Group Table changes. -/
def Obligations.SignalDetectLowRaisesLos : Prop :=
  ∀ (p : Fin 8) (s : State), ∃ t, exec (.signalDetectLow p) s = .next t ∧
    Agree [.pending, .inputs, .moment, .ssw, .records] s t ∧ (∀ q, q ≠ p → t.port q = s.port q) ∧
    (t.port p).sd = false ∧ (t.port p).losCount = 0 ∧ (t.port p).settings = (s.port p).settings ∧
    (t.port p).total = (s.port p).total ∧ (t.port p).slipCount = (s.port p).slipCount ∧
    ((s.port p).loopback = .terminal →
      t = s.modPort p fun x => { x with sd := false, losCount := 0 }) ∧
    ((s.port p).loopback ≠ .terminal →
      (t.port p).los = true ∧ (t.port p).align = .hunt ∧ (t.port p).available = false ∧
      Delivered (.port p .los) true s t ∧ ((s.port p).align = .sync → (t.port p).aligned = false))

/-- SIGNAL_DETECT_HIGH leaves LOS as it is and starts the debounce at 0; at the eighth local frame start that finds
the input high, LOS_DEBOUNCE_END makes LOS absent and delivers that to its alarm cell, outside terminal loopback;
the search starts there. A start at which it has done so judges the port no second time (log entry 2), and the row
finds nothing to do (log entry 3). -/
def Obligations.SignalDetectHighIsDebounced : Prop :=
  (∀ (p : Fin 8) (s : State),
    exec (.signalDetectHigh p) s = .next (s.modPort p fun x => { x with sd := true, losCount := 0 })) ∧
  (∀ (p : Fin 8) (s : State), (s.port p).los = true → (s.port p).sd = true → (s.port p).loopback ≠ .terminal →
    (s.port p).losCount = 7 → Judgement.los p ∉ s.openFrame.moment.done →
    ∃ t, exec (.losDebounceEnd p) s = .next t ∧ Agree [.pending, .inputs, .ssw, .records, .mci] s t ∧
      Agree [.imu, .csv, .tmu] s.openFrame t ∧ t.moment = s.openFrame.moment.made (.los p) ∧
      (∀ q, q ≠ p → t.port q = s.port q) ∧
      t.port p = { s.port p with los := false, losCount := 0, searchFrom := 0 } ∧
      Delivered (.port p .los) false s t) ∧
  (∀ (p : Fin 8) (s : State), Judgement.los p ∈ s.openFrame.moment.done → exec (.losDebounceEnd p) s = .next s)

/-- FIND and CONFIRM_WORD judge the word that the receiver sees: the one on the line, or in terminal loopback, where
the line is ignored, the word at that bit of the port's own transmitted frame (log entry 23). In HUNT without LOS a
window equal to the alignment word, at an offset the search has reached, is a find and fixes the candidate frame
start; in CONFIRM the first matching word is counted, the second makes the receiver enter SYNC, not multiframe
aligned, with no errored word, no predecessor, no blanking and the elastic store recentred; a differing word is a
miss that resumes the search one bit after the candidate. Nothing but the port changes. A window that is no find
leaves the state (log entry 3). -/
def Obligations.SearchAndConfirm : Prop :=
  ∀ (p : Fin 8) (s : State),
    let sees : BitVec 16 → Nat → BitVec 16 := fun w n => (s.port p).lineWord w n
    (∀ w n, (s.port p).loopback ≠ .terminal → sees w n = w) ∧
    (∀ w n f, (s.port p).loopback = .terminal → (s.port p).txFrame = some f → sees w n = sentWord f (n % 11648)) ∧
    (∀ f, (s.port p).loopback = .terminal → (s.port p).txFrame = some f → sentWord f 0 = frameWord f) ∧
    (∀ w n, (s.port p).align = .hunt → (s.port p).los = false → (s.port p).searchFrom ≤ n → sees w n = 0x3DC2#16 →
      exec (.find p w n) s =
        .next (s.modPort p fun x => { x with align := .confirm, candidate := n, confirmed := 0 })) ∧
    (∀ w, (s.port p).align = .confirm → (s.port p).confirmed = 0 → sees w (s.port p).candidate = 0x3DC2#16 →
      exec (.confirmWord p w) s = .next (s.modPort p fun x => { x with confirmed := 1 })) ∧
    (∀ w, (s.port p).align = .confirm → (s.port p).confirmed = 1 → sees w (s.port p).candidate = 0x3DC2#16 →
      ∃ t, exec (.confirmWord p w) s = .next t ∧
        Agree [.pending, .inputs, .moment, .ssw, .groups, .imu, .csv, .tmu, .alu, .queue, .mci] s t ∧
        (∀ q, q ≠ p → t.port q = s.port q) ∧
        t.port p =
          { s.port p with
            align := .sync, confirmed := 0, errored := 0, aligned := false, predecessor := none, inSequence := 0,
            mismatched := false, computed := none, bridged := none, blanking := 0,
            store := { frames := [], firstRead := false, reading := (s.port p).store.reading } }) ∧
    (∀ w, (s.port p).align = .confirm → sees w (s.port p).candidate ≠ 0x3DC2#16 →
      exec (.confirmWord p w) s =
        .next (s.modPort p fun x =>
          { x with align := .hunt, searchFrom := x.candidate + 1, confirmed := 0 })) ∧
    (∀ w n, (s.port p).align ≠ .hunt ∨ (s.port p).los = true ∨ n < (s.port p).searchFrom ∨ sees w n ≠ 0x3DC2#16 →
      exec (.find p w n) s = .next s)

/-- FRAME_RECEIVED_IN_SYNC for a frame that leaves the receiver in SYNC (in terminal loopback it is the frame being
sent, log entry 23): the alignment word is counted; parity is checked against the frame before unless that is absent
or the check blanked; a changed bridged flag blanks two checks; the frame is written behind the others in the store,
however many it holds (log entry 26); its quality code enters the filter; the index is judged. With multiframe
alignment (as it stood at the arrival, log entries 8 and 24), and unless this frame ends it: the trace character is
collected in order, and 16 of them give the candidate and its run; MREQ sets the pending echo, at once to a
coarse-only stamp and else when the vernier given (among those free once the conversions of that clock have ended,
log entry 47) has converted it, 8 clocks after the latching edge (log entries 22 and 39), unless the verdict is or
becomes LOOPED; MECH of the audit that waits for it (one latched at the edge of the marker's departure is not
claimed, log entry 46) marks the echo found, or resolves its slot with a coarse-only stamp and ends the audit with
the last one; the switch signal enters the filter of the group whose protection member the port is, without SF. The
source port's two management bytes are taken last. Other ports keep all but settings that such a command writes. -/
def Obligations.FrameReceivedIsCheckedAndStored : Prop :=
  ∀ (p : Fin 8) (a : Arrival) (frame : LineFrame) (s : State), (s.port p).align = .sync →
    let x := s.port p
    let f := x.input frame
    let o := frameFields f
    let wordOk : Bool := frameWord f == alignmentWord
    let bad : Bool := x.computed.isSome && x.computed != some o.parity && x.blanking == 0
    let flag := (signalOf o.signal.1 o.signal.2).bridged
    wordOk = true ∨ x.errored < 3 →
    ∃ t, exec (.frameReceivedInSync p a frame) s = .next t ∧
      (∀ q, q ≠ p → { t.port q with settings := (s.port q).settings } = s.port q) ∧ t.pending = s.pending ∧
      t.inputs = s.inputs ∧ t.moment = s.moment ∧
      (t.port p).align = .sync ∧ (t.port p).errored = (if wordOk then 0 else x.errored + 1) ∧
      (t.port p).perSecond = (if bad then bump x.perSecond 65535 else x.perSecond) ∧
      (t.port p).total = (if bad then bump x.total 4294967295 else x.total) ∧
      (t.port p).blanking = (if x.bridged = some (!flag) then 2 else x.blanking - 1) ∧
      (t.port p).bridged = some flag ∧ (t.port p).computed = some (frameParity f) ∧
      (t.port p).store = { x.store with frames := x.store.frames ++ [f] } ∧
      (t.port p).lastSecond = x.lastSecond ∧ (t.port p).slipCount = x.slipCount ∧ (t.port p).los = x.los ∧
      (t.port p).lof = x.lof ∧ (t.port p).exc = x.exc ∧ (t.port p).deg = x.deg ∧
      t.tmu.quality[p] = (s.tmu.quality[p]).take (knownQ o.quality) ∧
      (let y := t.port p
       (x.aligned = true →
        (o.index = x.expected → y.aligned = true ∧ y.expected = x.expected + 1 ∧ y.mismatched = false) ∧
        (o.index ≠ x.expected → x.mismatched = false →
          y.aligned = true ∧ y.expected = x.expected + 1 ∧ y.mismatched = true) ∧
        (o.index ≠ x.expected → x.mismatched = true →
          y.aligned = false ∧ y.predecessor = some o.index ∧ y.inSequence = 0)) ∧
       (x.aligned = false → x.predecessor = some (o.index - 1) → x.inSequence = 1 →
        y.aligned = true ∧ y.expected = o.index + 1) ∧
       (x.aligned = false → x.predecessor = some (o.index - 1) → x.inSequence ≠ 1 →
        y.aligned = false ∧ y.predecessor = some o.index ∧ y.inSequence = 1) ∧
       (x.aligned = false → x.predecessor ≠ some (o.index - 1) →
        y.aligned = false ∧ y.predecessor = some o.index ∧ y.inSequence = 0)) ∧
      ∃ v : State, t = (if s.mci.source = some p then v.takeBytes [f.overhead[11], f.overhead[12]] else v) ∧
        v.mci = s.mci ∧ v.records = s.records ∧
        let u := s.advanceTo (s.latchClock a)
        let c := u.cable p
        let d := v.cable p
        let sig := signalOf o.signal.1 o.signal.2
        let given := u.arbitrate (u.candClaims (portCand p) && u.tmu.selected == some (portCand p))
        let heard : Option (List Byte) :=
          if x.expected = 0 then some [o.trace]
          else c.collecting.bind fun cs => if cs.length = x.expected.toNat then some (cs ++ [o.trace]) else none
        (x.aligned = false →
          d.collecting = c.collecting ∧ d.traceCandidate = c.traceCandidate ∧ d.traceRun = c.traceRun ∧
          d.captures = c.captures ∧ d.accepted = c.accepted ∧ d.pendingEcho = c.pendingEcho ∧ d.awaited = c.awaited ∧
          v.imu.burst = u.imu.burst) ∧
        (x.aligned = true → (v.port p).aligned = true →
          (heard = none → d.collecting = none ∧ d.traceCandidate = c.traceCandidate ∧ d.traceRun = c.traceRun ∧
            d.captures = c.captures ∧ d.accepted = c.accepted) ∧
          (∀ cs, heard = some cs → cs.length < 16 →
            d.collecting = some cs ∧ d.traceCandidate = c.traceCandidate ∧ d.traceRun = c.traceRun ∧
            d.captures = c.captures ∧ d.accepted = c.accepted) ∧
          (∀ cs, heard = some cs → cs.length = 16 →
            d.collecting = none ∧ d.captures = (c.captures ++ [cs]).drop (c.captures.length + 1 - 3) ∧
            d.traceCandidate = (if validMultiframe cs then some (traceOf cs) else none) ∧
            d.traceRun =
              (if validMultiframe cs then
                (if c.traceCandidate = some (traceOf cs) then bump c.traceRun 3 else 1) else 0) ∧
            d.accepted = (if d.traceRun = 3 then d.traceCandidate else c.accepted))) ∧
        (x.aligned = true → (v.port p).aligned = true → d.verdict ≠ .looped → c.verdict ≠ .looped →
          (o.mreq = false → d.pendingEcho = c.pendingEcho ∧ d.awaited = c.awaited) ∧
          (o.mreq = true →
            (given = none → d.pendingEcho = some (.coarse u.timeCounter) ∧ d.awaited = none) ∧
            (∀ w, given = some w → d.awaited = some w ∧ d.pendingEcho = c.pendingEcho))) ∧
        (∀ b, x.aligned = true → o.mech = true → u.auditClaims p = true → u.imu.burst = some b →
          (∀ w, given = some w →
            v.imu.burst = some { b with slots := b.slots.map fun y => match y with
              | .outstanding e n _ => .outstanding e n true
              | y => y } ∧
            (v.vernier w).state = .busy
              { stamp := .fine u.timeCounter a.tap.toNat ((u.vernier w).cal.getD 0), due := u.imu.clk + 8,
                candidate := if u.candClaims (portCand p) then some (portCand p) else none, echo := some o.ta }) ∧
          (given = none →
            let z : Burst := { b with slots := b.slots.map fun y => match y with
              | .outstanding e _ _ => resolveEcho b e (.coarse u.timeCounter) o.ta
              | y => y }
            (z.resolved = false → v.imu.burst = some z) ∧
            (z.resolved = true → v.imu.burst = none ∧ d.lastResult = some z.reduce))) ∧
        (o.mech = false ∨ u.auditClaims p = false → v.imu.burst = u.imu.burst) ∧
        (∀ g, x.aligned = true → (v.port p).aligned = true → s.membership p = some (g, .p) → v.sf p = false →
          (v.group g).candidate = some sig ∧
          (v.group g).run = (if (u.group g).candidate = some sig then bump (u.group g).run 3 else 1) ∧
          (v.group g).accepted = (if (v.group g).run = 3 then some sig else (u.group g).accepted)) ∧
        (∀ g, (s.group g).portOf .p ≠ some p →
          (v.group g).candidate = (u.group g).candidate ∧ (v.group g).run = (u.group g).run ∧
          (v.group g).accepted = (u.group g).accepted)

/-- The fourth consecutive errored alignment word, received or announced by SYNC_LOSS, takes the receiver from SYNC
to HUNT: no multiframe alignment, no predecessor, no computed parity, no blanking, an empty quality filter, no
accepted trace, and no port but that one changes. -/
def Obligations.FourthErroredWordEndsSync : Prop :=
  ∀ (p : Fin 8) (s : State), (s.port p).align = .sync → (s.port p).errored = 3 →
    let ended : State → Prop := fun t =>
      Agree [.pending, .inputs, .moment, .ssw, .records] s t ∧ (∀ q, q ≠ p → t.port q = s.port q) ∧
        t.port p =
          { s.port p with
            errored := 4, align := .hunt, searchFrom := 0, aligned := false, predecessor := none, inSequence := 0,
            mismatched := false, computed := none, bridged := none, blanking := 0 } ∧
        t.tmu.quality[p] = QualityFilter.empty ∧ (t.cable p).accepted = none ∧ (t.cable p).traceCandidate = none ∧
        (t.cable p).pendingEcho = none
    (∃ t, exec (.syncLoss p) s = .next t ∧ ended t) ∧
    ∀ a f, frameWord ((s.port p).input f) ≠ alignmentWord →
      ∃ t, exec (.frameReceivedInSync p a f) s = .next t ∧ ended t

/-- MULTIFRAME_ALIGNED after one frame in sequence makes the port aligned, with the index that follows the second
frame's expected; MULTIFRAME_ALIGNMENT_LOST after one mismatch makes it not aligned, with the received index as the
first predecessor, empties the trace candidate and the pending echo, and ends the received switch signal of the
groups that read it from this port. -/
def Obligations.MultiframeAlignmentChanges : Prop :=
  ∀ (p : Fin 8) (s : State), (s.port p).align = .sync →
    (∀ q, (s.port p).aligned = false → (s.port p).inSequence = 1 → (s.port p).predecessor = some q →
      exec (.multiframeAligned p) s =
        .next (s.modPort p fun x =>
          { x with aligned := true, expected := q + 2, predecessor := none, inSequence := 0, mismatched := false })) ∧
    (∀ q, (s.port p).aligned = true → (s.port p).mismatched = true → q ≠ (s.port p).expected →
      ∃ t, exec (.multiframeAlignmentLost p q) s = .next t ∧
        Agree [.pending, .inputs, .moment, .ssw, .records, .imu, .tmu, .alu, .queue, .mci] s t ∧
        (∀ q, q ≠ p → t.port q = s.port q) ∧ (∀ q, q ≠ p → t.cable q = s.cable q) ∧
        (t.port p).align = .sync ∧ (t.port p).aligned = false ∧ (t.port p).inSequence = 0 ∧
        (t.port p).predecessor = some q ∧
        (t.cable p).traceCandidate = none ∧ (t.cable p).traceRun = 0 ∧ (t.cable p).pendingEcho = none ∧
        (t.cable p).accepted = (s.cable p).accepted ∧ (t.cable p).verdict = (s.cable p).verdict ∧
        (∀ g, (t.group g).accepted =
          if (s.group g).record.working.isSome ∧ (s.group g).record.protection = some p then none
          else (s.group g).accepted))

/-- LOF is judged at local frame starts: it becomes present at the twenty-fourth consecutive one out of SYNC and
absent at the twenty-fourth consecutive one in SYNC, and each change is delivered to its alarm cell. Short of the
count LOF_PRESENT finds nothing to do (log entry 3). Each local frame start judges a port once: LOCAL_FRAME_START
raises the count of the state that the receiver is in, up to 24, and sets the other to 0, but leaves the counts of a
port that was judged ahead of it (log entry 2), for which the rows find nothing to do. -/
def Obligations.LofNeedsTwentyFourFrames : Prop :=
  (∀ (p : Fin 8) (s : State),
    (Judgement.lof p ∈ s.openFrame.moment.done →
      exec (.lofPresent p) s = .next s ∧ exec (.lofAbsent p) s = .next s) ∧
    ((s.port p).lof = false → (s.port p).align ≠ .sync → (s.port p).outCount = 23 →
      Judgement.lof p ∉ s.openFrame.moment.done →
      ∃ t, exec (.lofPresent p) s = .next t ∧ Agree [.pending, .inputs, .ssw, .records, .mci] s t ∧
        (∀ q, q ≠ p → t.port q = s.port q) ∧
        t.port p = { s.port p with lof := true, outCount := 24, inCount := 0 } ∧
        t.moment = s.openFrame.moment.made (.lof p) ∧
        Delivered (.port p .lof) true s t) ∧
    ((s.port p).lof = true → (s.port p).align = .sync → (s.port p).inCount = 23 →
      Judgement.lof p ∉ s.openFrame.moment.done →
      ∃ t, exec (.lofAbsent p) s = .next t ∧ Agree [.pending, .inputs, .ssw, .records, .mci] s t ∧
        (∀ q, q ≠ p → t.port q = s.port q) ∧
        t.port p = { s.port p with lof := false, outCount := 0, inCount := 24 } ∧
        t.moment = s.openFrame.moment.made (.lof p) ∧
        Delivered (.port p .lof) false s t) ∧
    ((s.port p).lof = false → (s.port p).align ≠ .sync → (s.port p).outCount < 23 →
      exec (.lofPresent p) s = .next s)) ∧
  (∀ (x : FrameInputs) (s : State), s.coldRestartDue = false →
    let u := State.reachFrame { s with inputs := { s.inputs with frame := x } }
    ∃ t, exec (.localFrameStart x) s = .next t ∧
      ∀ p, let z := u.port p
        let y := t.port p
        (Judgement.lof p ∈ u.moment.done → y.outCount = z.outCount ∧ y.inCount = z.inCount ∧ y.lof = z.lof) ∧
        (Judgement.lof p ∉ u.moment.done →
          (y.align = .sync → y.outCount = 0 ∧ y.inCount = bump z.inCount 24 ∧
            y.lof = (z.lof && decide (y.inCount ≠ 24))) ∧
          (y.align ≠ .sync → y.inCount = 0 ∧ y.outCount = bump z.outCount 24 ∧
            y.lof = (z.lof || decide (y.outCount = 24))) ∧
          (t.alarm (.port p .lof)).present = y.lof))

/-- The elastic store. FIRST_READ: at the first local frame start at which at least 364 bytes of the first frame
received in SYNC have been written, the read side takes that frame; below 364 bytes it does not, and nothing is
counted as a slip (the row finds nothing to do, log entry 3). LOCAL_FRAME_START of a port that stays in SYNC after
its first read: a fill of 364 to 2,548 bytes reads the next frame; below 364 the read frame is repeated, above 2,548
one frame is dropped and the one behind it read, and either is a slip, which is counted and noted for SLIP. In
terminal loopback the store holds the port's own whole frames and no slip occurs (log entry 23). -/
def Obligations.FirstReadNeedsAQuarterFrame : Prop :=
  (∀ (p : Fin 8) (n : Nat) (s : State) (f : LineFrame) (rest : List LineFrame),
    (s.port p).align = .sync → (s.port p).store.firstRead = false → (s.port p).store.frames = f :: rest →
    (Judgement.store p ∉ s.openFrame.moment.done) →
    ((rest ≠ [] ∨ 364 ≤ n ∨ (s.port p).loopback = .terminal) →
      ∃ t, exec (.firstRead p n) s = .next t ∧ Agree [.pending, .ssw, .records, .mci] s t ∧
        (∀ q, q ≠ p → t.port q = s.port q) ∧
        t.port p = { s.port p with store := { frames := rest, firstRead := true, reading := some f } }) ∧
    (rest = [] → n < 364 → (s.port p).loopback ≠ .terminal → exec (.firstRead p n) s = .next s)) ∧
  (∀ (p : Fin 8) (y : FrameInputs) (s : State), s.moment.opened = false → s.replyDone = false →
    (s.port p).align = .sync → (s.port p).store.firstRead = true →
    (s.port p).settings.loopback = (s.port p).loopback →
    let x := s.port p
    let frames := x.store.frames
    let fill := if frames = [] then 0 else 1456 * (frames.length - 1) + min y.written[p] 1456
    let slips : Bool := x.loopback != .terminal && (decide (fill < 364) || decide (2548 < fill))
    ∃ t, exec (.localFrameStart y) s = .next t ∧
      (t.port p).slipCount = (if slips then bump x.slipCount 65535 else x.slipCount) ∧
      (slips = true → (t.port p).slipped = true) ∧ (t.port p).store.firstRead = true ∧
      (x.loopback ≠ .terminal →
        (fill < 364 → (t.port p).store = x.store) ∧
        (364 ≤ fill → fill ≤ 2548 →
          (t.port p).store.frames = frames.tail ∧ (t.port p).store.reading = frames.head?) ∧
        (2548 < fill →
          (t.port p).store.frames = frames.tail.tail ∧ (t.port p).store.reading = frames.tail.head?)) ∧
      (x.loopback = .terminal →
        (frames = [] → (t.port p).store = x.store) ∧
        (frames ≠ [] → (t.port p).store.frames = frames.tail ∧ (t.port p).store.reading = frames.head?)))

/-- EXC_ABSENT, DEG_PRESENT and DEG_ABSENT at the coming tick, after an available second: EXC ends with the second
available second below XT, DEG begins and ends when the run of degraded or of other seconds reaches DM; each is
delivered. A second that was not available is not judged, and the rows find nothing to do (log entry 3). -/
def Obligations.SecondsAreJudged : Prop :=
  ∀ (p : Fin 8) (s : State), s.openFrame.tickDue = true →
    Judgement.exc p ∉ s.openFrame.moment.done → Judgement.deg p ∉ s.openFrame.moment.done →
    let x := s.port p
    let judged : State → Prop := fun t =>
      Agree [.pending, .inputs, .ssw, .records, .mci] s t ∧ ∀ q, q ≠ p → t.port q = s.port q
    (x.available = true → x.exc = true → x.perSecond < x.settings.xt → x.belowXt = 1 →
      ∃ t, exec (.excAbsent p) s = .next t ∧ judged t ∧ t.port p = { x with exc := false, belowXt := 2 } ∧
        (t.alarm (.port p .exc)).present = false) ∧
    (x.available = true → x.deg = false → x.settings.dt ≤ x.perSecond →
        x.settings.dm ≤ bump x.degradedRun 10 →
      ∃ t, exec (.degPresent p) s = .next t ∧ judged t ∧
        t.port p = { x with deg := true, degradedRun := bump x.degradedRun 10, cleanRun := 0 } ∧
        (t.alarm (.port p .deg)).present = true) ∧
    (x.available = true → x.deg = true → x.perSecond < x.settings.dt → x.settings.dm ≤ bump x.cleanRun 10 →
      ∃ t, exec (.degAbsent p) s = .next t ∧ judged t ∧
        t.port p = { x with deg := false, degradedRun := 0, cleanRun := bump x.cleanRun 10 } ∧
        (t.alarm (.port p .deg)).present = false) ∧
    (x.available = false →
      exec (.excAbsent p) s = .next s ∧ exec (.degPresent p) s = .next s ∧ exec (.degAbsent p) s = .next s)

/-! ## The local frame start -/

/-- LOCAL_FRAME_START: the frame generator adds FW to ACC, sets the length of the frame to 4,095, 4,096 or 4,097
clocks and counts the frame, within the law of the device; the frame mark is the clock of the local frame start, and
the multiframe mark too at index 0; the map in use becomes the stored map and the held frames are the backplane
frames just received; the instant is over. Two points are the model's choice: the held frames stay at the first
local frame start (log entry 27), and a conversion or an FW change that ends at this very edge is taken before FW is
added (log entry 41). A cold restart that waits for its reply is not this case. -/
def Obligations.LocalFrameStartGenerator : Prop :=
  ∀ (x : FrameInputs) (s : State), s.moment.opened = false → s.coldRestartDue = false →
    let u := (State.pulsesUpTo s.tmu.nextStart { s with inputs := { s.inputs with frame := x } }).advanceTo s.tmu.nextStart
    let sum := u.tmu.acc + u.tmu.fw
    ∃ t, exec (.localFrameStart x) s = .next t ∧ t.pending = s.pending ∧
      t.inputs = { s.inputs with frame := x } ∧ t.moment = .closed ∧
      t.imu.clk = u.imu.clk ∧ t.imu.frameStart = u.imu.clk ∧
      t.tmu.acc = (if 65536 ≤ sum then sum - 65536 else if sum < 0 then sum + 65536 else sum) ∧
      t.tmu.nextStart = u.imu.clk + (if 65536 ≤ sum then 4097 else if sum < 0 then 4095 else 4096) ∧
      t.tmu.frameCount =
        (if s.tmu.started then (if s.tmu.frameCount = 7999 then 0 else s.tmu.frameCount + 1) else s.tmu.frameCount) ∧
      t.tmu.seconds =
        (if s.tmu.started = true ∧ s.tmu.frameCount = 7999 then (s.tmu.seconds + 1) % 4294967296 else s.tmu.seconds) ∧
      t.tmu.started = true ∧ t.tmu.frameNo = s.tmu.frameNo + 1 ∧
      t.imu.multiframeStart = (if t.index = 0 then u.imu.clk else s.imu.multiframeStart) ∧
      (s.GeneratorLaw → t.GeneratorLaw) ∧
      t.ssw.storedMap = s.ssw.storedMap ∧ t.ssw.mapInUse = s.ssw.storedMap ∧
      t.ssw.held = (if s.tmu.frameNo = 0 then s.ssw.held else x.slots)

/-- ONE_SECOND_TICK: where the coming local frame start follows frame count 7,999 it is a tick: the frame count
returns to 0, the seconds count rises, and every port closes its second: the per-second count is copied to the
last-second count and returned to 0 and SLIP is present exactly if a slip occurred. After an available second EXC
begins with a count at or above XT and ends with the second available second in a row below it, DEG begins and ends
with the run that reaches DM, and each is delivered; after another second both stay. At any other local frame start
the row finds nothing to do (log entry 3). At LOCAL_FRAME_START the running second stays available only in SYNC
without LOS, and a tick begins a new one. -/
def Obligations.OneSecondTickClosesTheSecond : Prop :=
  (∀ s : State, s.moment.opened = false →
    (s.tmu.started = true → s.tmu.frameCount = 7999 →
      ∃ t, exec .oneSecondTick s = .next t ∧ Agree [.pending, .inputs, .ssw, .records] s t ∧
        t.moment.opened = true ∧ t.moment.tick = true ∧ t.tmu.frameCount = 0 ∧
        t.tmu.seconds = (s.tmu.seconds + 1) % 4294967296 ∧
        ∀ p, (t.port p).lastSecond = (s.port p).perSecond ∧ (t.port p).perSecond = 0 ∧
          (t.port p).slip = (s.port p).slipped ∧ (t.port p).slipped = false ∧
          (t.port p).slipCount = (s.port p).slipCount ∧ (t.port p).total = (s.port p).total ∧
          (t.port p).align = (s.port p).align ∧ (t.port p).store = (s.port p).store ∧
          (t.alarm (.port p .slip)).present = (s.port p).slipped ∧
          (let x := s.port p
           let y := t.port p
           (x.available = false → y.exc = x.exc ∧ y.deg = x.deg) ∧
           (x.available = true →
            (x.settings.xt ≤ x.perSecond → y.exc = true ∧ y.belowXt = 0) ∧
            (x.perSecond < x.settings.xt →
              y.belowXt = bump x.belowXt 2 ∧ y.exc = (x.exc && decide (x.belowXt = 0))) ∧
            (x.settings.dt ≤ x.perSecond →
              y.degradedRun = bump x.degradedRun 10 ∧ y.cleanRun = 0 ∧
              y.deg = (x.deg || decide (x.settings.dm ≤ bump x.degradedRun 10))) ∧
            (x.perSecond < x.settings.dt →
              y.degradedRun = 0 ∧ y.cleanRun = bump x.cleanRun 10 ∧
              y.deg = (x.deg && !decide (x.settings.dm ≤ bump x.cleanRun 10)))) ∧
           (t.alarm (.port p .exc)).present = y.exc ∧ (t.alarm (.port p .deg)).present = y.deg)) ∧
    (s.tmu.started = false ∨ s.tmu.frameCount ≠ 7999 → exec .oneSecondTick s = .next s)) ∧
  (∀ (x : FrameInputs) (s : State), s.moment.opened = false → s.coldRestartDue = false →
    ∃ t, exec (.localFrameStart x) s = .next t ∧
      ∀ p, (t.port p).available =
        (((s.tmu.started && s.tmu.frameCount == 7999) || (s.port p).available) && (t.port p).align == .sync &&
          !(t.port p).los))

/-! ## Section 2: Slot Switch -/

/-- What the backplane ports begin to send at LOCAL_FRAME_START: the local multiframe index; idle content with the
flag clear in an unequipped slot and in every slot of a group in its guard frame; outside it, line slot `k` of the
frame that the selected member's store reads, whole, with the flag clear, where that member is in SYNC, has made its
first read and is free of SF; and otherwise AIS with the flag set. -/
def Obligations.BackplaneSlots : Prop :=
  ∀ (x : FrameInputs) (s : State), s.coldRestartDue = false →
    ∃ t, exec (.localFrameStart x) s = .next t ∧
      ∀ b : Fin 2, ∃ f, t.ssw.sent[b] = some f ∧ f.index = t.index ∧
        ∀ n : Fin 128,
          (t.ssw.entryOf b n = .unequipped → f.slots[n] = idleSlot ∧ f.flags.getLsbD n = false) ∧
          ∀ g k, t.ssw.entryOf b n = .mapped g k →
            ((t.group g).guard = true → f.slots[n] = idleSlot ∧ f.flags.getLsbD n = false) ∧
            ((t.group g).guard = false →
              let passes : Fin 8 → Prop := fun p =>
                (t.group g).portOf (t.group g).selector = some p ∧ (t.port p).align = .sync ∧
                  (t.port p).store.firstRead = true ∧ (t.port p).store.reading.isSome = true ∧ t.sf p = false
              (∀ p r, (t.port p).store.reading = some r → passes p →
                f.slots[n] = r.payload[k] ∧ f.flags.getLsbD n = false) ∧
              ((∀ p, ¬passes p) → f.slots[n] = aisSlot ∧ f.flags.getLsbD n = true))

/-- What each port begins to send at LOCAL_FRAME_START. A written loopback acts from here: into or out of TERMINAL
the receiver is in HUNT, with LOS absent in TERMINAL and present behind it where the input is low; NORMAL and
FACILITY leave the receiver. In facility loopback the frame is the one that the store reads, or every byte FF hex
out of SYNC or before the first read. Otherwise it has the alignment word, the local index, the trace character of
this index from the trace of the multiframe, marked at index 0, the parity computed over the frame sent before, the
output quality, the switch signal of the port's group, and zero spare bytes. On the members of the management group
it has the two management bytes that the interface gives, and ATTN while a record is held or a news flag is set; on
every other port both bytes are zero and ATTN is not sent (all overhead, ATTN too, is taken at the local frame
start, not when the byte is sent: the model's choice, log entry 11); it has MREQ exactly where a marker departs in
it, and MECH with the turnaround where the pending echo is at least 64 clocks old (TA is absent in any other); line
slot `k` carries the held backplane content of the entry mapped to it where the port is the working member of the
entry's group, or its protection member while it is bridged, and is idle where no entry is. The parity of the frame
as sent is kept for the next one. -/
def Obligations.TransmittedFrame : Prop :=
  ∀ (x : FrameInputs) (s : State), s.coldRestartDue = false →
    let u := State.reachFrame { s with inputs := { s.inputs with frame := x } }
    ∃ t, exec (.localFrameStart x) s = .next t ∧
      ∀ p : Fin 8, ∃ f, (t.port p).txFrame = some f ∧ (t.port p).txParity = frameParity f ∧
        (t.port p).loopback = (s.port p).settings.loopback ∧
        (((s.port p).loopback = .terminal ↔ (t.port p).loopback = .terminal) →
          (t.port p).align = (s.port p).align) ∧
        ((s.port p).loopback ≠ .terminal → (t.port p).loopback = .terminal →
          (t.port p).align = .hunt ∧ (t.port p).los = false ∧ (t.alarm (.port p .los)).present = false) ∧
        ((s.port p).loopback = .terminal → (t.port p).loopback ≠ .terminal →
          (t.port p).align = .hunt ∧
          ((s.port p).sd = false → (t.port p).los = true ∧ (t.alarm (.port p .los)).present = true)) ∧
        (t.cable p).txTrace = (if t.index = 0 then (t.cable p).record.transmitted else (s.cable p).txTrace) ∧
        ((t.port p).loopback = .facility →
          f = if (t.port p).align = .sync ∧ (t.port p).store.firstRead = true then
                (t.port p).store.reading.getD frameOfOnes else frameOfOnes) ∧
        ((t.port p).loopback ≠ .facility →
          frameWord f = 0x3DC2#16 ∧ (frameFields f).index = t.index ∧ f.overhead[4] = (s.port p).txParity ∧
          (frameFields f).quality = t.tmu.outQ[p] ∧
          (frameFields f).trace =
            ((if t.index = 0 then 1#1 else 0#1) ++ (t.cable p).txTrace[t.index.toNat]'(by omega) : BitVec 8) ∧
          (frameFields f).attn =
            (t.managementGroup.hasMember p && (!t.queue.records.isEmpty || t.queue.news.newRecord ||
              t.queue.news.traffic || t.queue.news.timing || t.queue.news.measure || t.queue.news.fault)) ∧
          (t.managementGroup.hasMember p = false → f.overhead[11] = 0#8 ∧ f.overhead[12] = 0#8) ∧
          (t.managementGroup.hasMember p = true → f.overhead[11] = t.mci.out.1 ∧ f.overhead[12] = t.mci.out.2) ∧
          (t.membership p = none → (frameFields f).signal = (0, 0)) ∧
          (∀ m, t.membership p = some m →
            signalOf (frameFields f).signal.1 (frameFields f).signal.2 =
              { request := (t.group m.1).txRequest, channel := (t.group m.1).txChannel,
                bridged := (t.group m.1).txBridged, arch := (t.group m.1).record.arch,
                direction := (t.group m.1).record.direction, group := BitVec.ofNat 3 m.1.val }) ∧
          (s.MarkerLaw → s.moment.opened = false →
            ((frameFields f).mreq = true ↔
              ∃ b, t.imu.burst = some b ∧ b.port = p ∧
                SampleSlot.outstanding (.exact t.frameMark) t.tmu.frameNo false ∈ b.slots) ∧
            ((s.port p).loopback = (s.port p).settings.loopback →
              (∀ a, (u.cable p).pendingEcho = some a → 16384 ≤ interval a (.exact u.frameMark) →
                (frameFields f).mech = true ∧
                (frameFields f).ta = (if a.isCoarse then 0x800000#24 else 0#24) |||
                  (BitVec.ofInt 23 (interval a (.exact u.frameMark))).setWidth 24) ∧
              ((∀ a, (u.cable p).pendingEcho = some a → interval a (.exact u.frameMark) < 16384) →
                (frameFields f).mech = false ∧ (frameFields f).ta = 0xFFFFFF#24))) ∧
          f.overhead[13] = 0#8 ∧ f.overhead[14] = 0#8 ∧ f.overhead[15] = 0#8 ∧
          ∀ k : Fin 40,
            (t.membership p = none → f.payload[k] = idleSlot) ∧
            ∀ g m, t.membership p = some (g, m) →
              (m = .w ∨ (t.group g).bridge = true →
                (∀ n : Fin 256, t.ssw.mapInUse[n] = .mapped g k →
                  (∀ i : Fin 256, t.ssw.mapInUse[i] = .mapped g k → i = n) → f.payload[k] = t.ssw.heldSlot n) ∧
                ((∀ n : Fin 256, t.ssw.mapInUse[n] ≠ .mapped g k) → f.payload[k] = idleSlot)) ∧
              (m = .p → (t.group g).bridge = false → f.payload[k] = idleSlot))

/-- WRITE_MAP of one entry, where a reply can be queued and no change is pending: an UNEQUIPPED entry, and one
mapped to a defined group and a line slot that no other entry holds, is stored and answered DONE; a mapping to an
undefined group, to a line slot in use, or out of range is refused with BAD-VALUE and changes nothing. The map in
use does not change. -/
def Obligations.MapWrites : Prop :=
  ∀ (tag first kind group slot : Byte) (s : State), s.canTake = true → s.changePending = false →
    let n : Fin 256 := ⟨first.toNat, by omega⟩
    let reply : Result → Option Nat → Answer := fun r i => { Answer.plain r with data := refusedIndex i }
    let store : MapEntry → State := fun e => { s with ssw := { s.ssw with storedMap := s.ssw.storedMap.set n e } }
    (kind = 0 →
      exec (.writeMap tag first [kind, group, slot]) s =
        .next ((store .unequipped).answered tag 2 (reply .done none))) ∧
    (∀ (g : Fin 8) (k : Fin 40), kind = 1 → group.toNat = g → slot.toNat = k →
      ((s.group g).defined = true → (∀ m, m ≠ n → s.ssw.storedMap[m] ≠ .mapped g k) →
        exec (.writeMap tag first [kind, group, slot]) s =
          .next ((store (.mapped g k)).answered tag 2 (reply .done none))) ∧
      ((s.group g).defined = false ∨ (∃ m, m ≠ n ∧ s.ssw.storedMap[m] = .mapped g k) →
        exec (.writeMap tag first [kind, group, slot]) s =
          .next (s.answered tag 2 (reply .badValue (some first.toNat))))) ∧
    (1 < kind.toNat ∨ (kind = 1 ∧ (8 ≤ group.toNat ∨ 40 ≤ slot.toNat)) →
      exec (.writeMap tag first [kind, group, slot]) s =
        .next (s.answered tag 2 (reply .badValue (some first.toNat))))

/-! ## Sections 3 and 4: protection groups -/

/-- LOCAL_FRAME_START evaluates every group: an unprotected group selects W and has no bridge; a ONE-END group's
selector and transmitted request are its top local request; a group whose operator request is LOCK selects W; no
group selects P without a protection member or while LOCK or PATCH-P is in effect; a PAIR group is bridged and a
SPARE group exactly while its transmitted channel is P; the transmitted bridged field is the bridge; and this is a
guard frame exactly where the selected port differs from that of the last local frame start (from the working port
of a group defined since, log entry 32). At a start with no tick, no reply leaving and no loopback change: a
BOTH-ENDS group without PSF answers a received request of higher priority than its top local one (log entry 36 for
codes not listed) with REV on its channel, and else transmits the top local request; it selects W under LOCK or
PATCH-P, its transmitted channel once the far end agrees and has bridged where that is needed, or in FALLBACK or
with nothing received, and else keeps its selection; a guard frame writes a SWITCH record with the deciding request
and sets TRAFFIC; UNPROT is present exactly while P has SF, LOCK or PATCH-P is in effect, or a window is open on P.
SF, the patch marks and the windows are those that stand before this start changes any (the model's choice, log
entry 4). The top local request is an active request in effect of highest code, with the code and channel of the
table of 3.3, and cancels WAIT and HOLD; with none in effect, WAIT (revertive, its count at 0) or HOLD begins where
traffic is on P after FAIL-W or DEGR-W, in a non-revertive group also after FORCE, PATCH-W or MAN-P; the top local
request is then the restore request, which ends with the selector on W. -/
def Obligations.ProtectionFollowsTheTopRequest : Prop :=
  ∀ (x : FrameInputs) (s : State), s.moment.opened = false → s.coldRestartDue = false →
    let u := State.reachFrame { s with inputs := { s.inputs with frame := x } }
    ∃ t, exec (.localFrameStart x) s = .next t ∧
      ∀ g, let y := t.group g
        (y.defined = true → y.protected = false →
          y.selector = .w ∧ y.top = .none ∧ y.txRequest = 0 ∧ y.accepted = none ∧ y.bridge = false) ∧
        (y.protected = true →
          (y.operator = .lock → y.selector = .w ∧ y.top.code = 15) ∧
          (y.record.direction = .oneEnd →
            y.selector = y.top.channel ∧ y.txRequest = y.top.code ∧ y.txChannel = y.top.channel ∧ y.confirm = none) ∧
          (y.record.arch = .pair → y.bridge = true) ∧
          (y.record.arch = .spare → y.bridge = (y.txChannel == .p)) ∧ y.txBridged = y.bridge) ∧
        (y.defined = true → y.selector = .p → y.protected = true ∧ y.locked = false) ∧
        y.selectedPort = y.portOf y.selector ∧ y.rewritten = false ∧
        (s.replyDone = false ∨ s.replyEffect ≠ .deferred ∨ g ≠ s.mci.group →
          y.guard = (y.defined && y.portOf y.selector != (s.group g).oldPort)) ∧
        (s.Undisturbed →
          let z := u.group g
          (y.protected = true → y.record.direction = .bothEnds →
            (∀ r, z.accepted = some r → z.psf = none → y.psf = none →
              let far : Bool := decide (y.top.code.toNat < receivedPriority r.request)
              y.txRequest = (if far then 2 else y.top.code) ∧ y.txChannel = (if far then r.channel else y.top.channel)) ∧
            (z.accepted = none ∨ z.psf ≠ none ∨ y.psf ≠ none →
              y.txRequest = y.top.code ∧ y.txChannel = y.top.channel) ∧
            y.selector =
              (if z.locked then .w
               else match y.psf, z.accepted with
                | none, some r =>
                  if r.channel = y.txChannel ∧ (y.record.arch = .pair ∨ y.txChannel = .w ∨ r.bridged = true) then
                    y.txChannel
                  else z.selector
                | _, _ => y.txChannel)) ∧
          (y.protected = true →
            let requests : List (LocalRequest × BitVec 4 × Member × Bool) :=
              [(.lock, 15, .w, y.operator == .lock), (.patchP, 15, .w, z.markP), (.failP, 14, .w, y.sfP.after),
               (.force, 13, .p, y.operator == .force), (.patchW, 13, .p, z.markW && !z.markP),
               (.failW, 12, .p, y.sfW.after), (.degrP, 11, .w, y.sdP.after), (.degrW, 10, .p, y.sdW.after),
               (.manP, 8, .p, y.operator == .manP), (.manW, 7, .w, y.operator == .manW)]
            let waits : Prop := z.restore = .none ∧ z.selector = .p ∧
              (z.top = .failW ∨ z.top = .degrW ∨
                (z.record.revertive = false ∧ (z.top = .force ∨ z.top = .patchW ∨ z.top = .manP)))
            let restore : Restore := if waits then (if z.record.revertive then .wait else .hold) else z.restore
            ((∃ e ∈ requests, e.2.2.2 = true) →
              (y.top, y.top.code, y.top.channel, true) ∈ requests ∧
              (∀ e ∈ requests, e.2.2.2 = true → e.2.1.toNat ≤ y.top.code.toNat) ∧
              y.restore = .none ∧ y.wtrCount = none) ∧
            ((∀ e ∈ requests, e.2.2.2 = false) →
              (y.top, y.top.code, y.top.channel) =
                (match restore with
                | .wait => (.wait, 6, .p)
                | .hold => (.hold, 4, .p)
                | .none => (.none, 0, .w)) ∧
              (y.selector = .p → y.restore = restore ∧
                y.wtrCount = if waits ∧ z.record.revertive = true then some 0 else z.wtrCount) ∧
              (y.selector = .w → y.restore = .none ∧ y.wtrCount = none))) ∧
          (y.guard = true →
            let cause : BitVec 4 × Bool :=
              if z.rewritten = true ∧ y.selector = .w then (0, false)
              else if y.record.direction = .oneEnd then (y.top.code, false)
              else if z.locked then (15, false)
              else match y.psf, z.accepted with
                | none, some r => if y.txRequest = 2 then (r.request, true) else (y.txRequest, false)
                | _, _ => (y.txRequest, false)
            t.queue.news.traffic = true ∧ Reported (.switch g y.selector cause.1 cause.2) s t) ∧
          y.unprot = (y.protected && (u.memberSf g .p || z.locked || u.windowOn (y.portOf .p))) ∧
          (t.alarm (.unprot g)).present = y.unprot)

/-- SF of a port is the action flag of LOS, LOF, EXC, TIM or LOOP; SD of a member is that of DEG or LEN where
degrade switching is on; a missing member has neither. At a LOCAL_FRAME_START with no tick, no reply leaving and no
loopback change every condition of a defined group, by the flags as they stand before that start changes any (the
model's choice, log entry 4), is counted up to the hold-off times 800 and is set after hold-off from there; a clear
one has count 0 and is clear after hold-off. HOLD_OFF_EXPIRY and WTR_EXPIRY at the coming local frame start: a
condition that is set and whose count reaches the hold-off times 800 local frames is set after hold-off from there;
one whose count stays below is not. A WAIT whose count reaches the WTR times 10 at a tick becomes NONE with the
count idle, and a ONE-END group then selects what its top local request names. A deferred change that its reply has
released acts first. Short of its count HOLD_OFF_EXPIRY finds nothing to do (log entry 3). -/
def Obligations.HoldOffAndWtrExpire : Prop :=
  (∀ (g : Fin 8) (p : Fin 8) (m : Member) (s : State),
    (s.sf p = true ↔ ∃ k ∈ [PortKind.los, .lof, .exc, .tim, .loop], (s.alarm (.port p k)).flag = true) ∧
    ((s.group g).portOf m = none → s.memberSf g m = false ∧ s.memberSd g m = false) ∧
    ((s.group g).portOf m = some p →
      s.memberSf g m = s.sf p ∧
      s.memberSd g m = ((s.group g).record.degrade && ((s.alarm (.port p .deg)).flag || (s.alarm (.port p .len)).flag)))) ∧
  (∀ (x : FrameInputs) (s : State), s.moment.opened = false → s.coldRestartDue = false → s.Undisturbed →
    let u := State.reachFrame { s with inputs := { s.inputs with frame := x } }
    ∃ t, exec (.localFrameStart x) s = .next t ∧
      ∀ g m c, (t.group g).defined = true → (m = .w ∨ (t.group g).protected = true) →
        let z := (u.group g).condition m c
        let y := (t.group g).condition m c
        let limit := 800 * (u.group g).record.holdOff
        let now : Bool :=
          match c with
          | .sf => u.memberSf g m
          | .sd => u.memberSd g m
        (now = true → y.count = (if z.count < limit then z.count + 1 else z.count) ∧ (y.after = true ↔ limit ≤ y.count)) ∧
        (now = false → y.count = 0 ∧ y.after = false)) ∧
  ∀ (g : Fin 8) (s : State),
    let u := s.openChanged
    let x := u.group g
    (s.replyDone = false ∨ s.replyEffect ≠ .deferred → u = s.openFrame) ∧
    (x.defined = true → Judgement.group g ∉ u.moment.done →
    let limit := 800 * x.record.holdOff
    let now : Member → Condition → Bool := fun m c =>
      match c with
      | .sf => u.memberSf g m
      | .sd => u.memberSd g m
    (∀ m c, (m = .w ∨ x.protected = true) → ((s.group g).condition m c).after = false → now m c = true →
      (limit ≤ (x.condition m c).count + 1 →
        ∃ t, exec (.holdOffExpiry g m c) s = .next t ∧ Agree [.pending, .inputs, .ports, .ssw] s t ∧
          Agree [.pending, .inputs, .ports, .ssw, .records] u t ∧ (∀ h, h ≠ g → t.group h = u.group h) ∧
          ((t.group g).condition m c).after = true ∧ limit ≤ ((t.group g).condition m c).count) ∧
      ((x.condition m c).count + 1 < limit → exec (.holdOffExpiry g m c) s = .next s)) ∧
    (∀ n, x.protected = true → u.moment.tick = true → x.restore = .wait → x.wtrCount = some n →
      10 * x.record.wtr ≤ n + 1 → x.top.restores x.record.revertive = false →
      ∃ t, exec (.wtrExpiry g) s = .next t ∧ Agree [.pending, .inputs, .ports, .ssw] s t ∧
        Agree [.pending, .inputs, .ports, .ssw, .records] u t ∧ (∀ h, h ≠ g → t.group h = u.group h) ∧
        (t.group g).restore = .none ∧ (t.group g).wtrCount = none ∧
        (x.record.direction = .oneEnd → (t.group g).selector = (t.group g).top.channel)))

/-- REQUEST on a protected group, where a reply can be queued and no change is pending: LOCK replaces the stored
operator request; FORCE does so unless LOCK is stored; MAN-P and MAN-W do so unless a higher request outranks them,
and MAN-W is refused with BAD-STATE in a revertive group; CLEAR stores NONE and unmarks the members whose window is
closed. Nothing else but the reply changes, and a refused request changes nothing but the reply. An unprotected
group refuses every request with BAD-STATE, and a group number above 7 with BAD-INDEX. At a LOCAL_FRAME_START with
no tick, no reply leaving and no loopback change a protected group drops a stored MAN-P or MAN-W that a patch
request, a condition after hold-off, or the received request of a BOTH-ENDS group outranks, and keeps any other
stored request. A received request of a BOTH-ENDS group counts as its code; one that the table does not list counts
as 0 in both comparisons: the model's choice, log entry 36. -/
def Obligations.OperatorRequests : Prop :=
  (∀ (tag : Byte) (g : Fin 8) (s : State), s.canTake = true → s.changePending = false →
    let x := s.group g
    let b : Byte := BitVec.ofNat 8 g.val
    let no : Result → Host.Outcome State Fault Refusal := fun r => .next (s.answered tag 3 (.plain r))
    let yes : (Group → Group) → Host.Outcome State Fault Refusal := fun f =>
      .next ((s.modGroup g f).answered tag 3 (.plain .done))
    let outranked : Nat → Prop := fun n =>
      n < x.top.code.toNat ∨ n < x.operator.code.toNat ∨ n < x.patchCode.toNat ∨ n < x.receivedWeight
    (x.protected = true →
      exec (.requestLock tag b) s = yes (fun y => { y with operator := .lock }) ∧
      (x.operator = .lock → exec (.requestForce tag b) s = no .refused) ∧
      (x.operator ≠ .lock → exec (.requestForce tag b) s = yes fun y => { y with operator := .force }) ∧
      (outranked 8 → exec (.requestManP tag b) s = no .refused) ∧
      (¬outranked 8 → exec (.requestManP tag b) s = yes fun y => { y with operator := .manP }) ∧
      (x.record.revertive = true → exec (.requestManW tag b) s = no .badState) ∧
      (x.record.revertive = false → outranked 7 → exec (.requestManW tag b) s = no .refused) ∧
      (x.record.revertive = false → ¬outranked 7 →
        exec (.requestManW tag b) s = yes fun y => { y with operator := .manW }) ∧
      exec (.requestClear tag b) s = yes fun y =>
        { y with operator := .none, markW := y.markW && s.windowOn (y.portOf .w),
                 markP := y.markP && s.windowOn (y.portOf .p) }) ∧
    (x.protected = false → ∀ i ∈ [Instr.requestLock tag b, .requestForce tag b, .requestManP tag b,
        .requestManW tag b, .requestClear tag b], exec i s = no .badState) ∧
    (∀ c : Byte, 8 ≤ c.toNat → ∀ i ∈ [Instr.requestLock tag c, .requestForce tag c, .requestManP tag c,
        .requestManW tag c, .requestClear tag c], exec i s = no .badIndex)) ∧
  (∀ (x : FrameInputs) (s : State), s.moment.opened = false → s.coldRestartDue = false → s.Undisturbed →
    let u := State.reachFrame { s with inputs := { s.inputs with frame := x } }
    ∃ t, exec (.localFrameStart x) s = .next t ∧
      ∀ g, (t.group g).protected = true →
        let z := u.group g
        let y := t.group g
        let outranks : Nat → Prop := fun n =>
          z.markP = true ∨ z.markW = true ∨ y.sfP.after = true ∨ y.sfW.after = true ∨ y.sdP.after = true ∨
            y.sdW.after = true ∨ n < z.receivedWeight
        (z.operator = .manP → y.operator = if outranks 8 then .none else .manP) ∧
        (z.operator = .manW → y.operator = if outranks 7 then .none else .manW) ∧
        (z.operator ≠ .manP → z.operator ≠ .manW → y.operator = z.operator)) ∧
  (∀ q : BitVec 4, receivedPriority q =
    if q = 15 ∨ q = 14 ∨ q = 13 ∨ q = 12 ∨ q = 11 ∨ q = 10 ∨ q = 8 ∨ q = 7 ∨ q = 6 ∨ q = 4 then q.toNat else 0) ∧
  (∀ x : Group,
    (x.record.direction = .oneEnd ∨ x.accepted = none → x.receivedWeight = 0) ∧
    ∀ r, x.accepted = some r → x.record.direction = .bothEnds → x.receivedWeight = receivedPriority r.request)

/-- SWITCH_SIGNAL_ACCEPTED and QUALITY_ACCEPTED: the third equal switch signal in a row becomes the accepted
received value, and the eighth equal quality code the accepted Q of the port; nothing else changes. With a shorter
run the rows find nothing to do (log entry 3). -/
def Obligations.EqualValuesAreAccepted : Prop :=
  (∀ (g : Fin 8) (v : SwitchSignal) (s : State), (s.group g).candidate = some v →
    ((s.group g).run = 2 →
      exec (.switchSignalAccepted g) s = .next (s.modGroup g fun x => { x with run := 3, accepted := some v })) ∧
    ((s.group g).run < 2 → exec (.switchSignalAccepted g) s = .next s)) ∧
  (∀ (p : Fin 8) (q : BitVec 4) (s : State), s.tmu.quality[p].candidate = some q →
    (s.tmu.quality[p].run = 7 →
      exec (.qualityAccepted p) s = .next (s.modQuality p fun x => { x with run := 8, accepted := some q })) ∧
    (s.tmu.quality[p].run < 7 → exec (.qualityAccepted p) s = .next s))

/-- PSF, the confirm timer and the agreement count. CONFIRM_TIMER_EXPIRY and PSF_END, for a protected group `y` as
its evaluation at the coming local frame start leaves it up to its transmitted channel: in a BOTH-ENDS group without
PSF, whose transmitted channel has not changed and still differs from the accepted one at the four hundredth local
frame start, PSF becomes present with cause TIMEOUT, the timer is idle, the group is in FALLBACK and transmits its
top local request; at the four hundredth local frame start in agreement PSF becomes absent. PSF is delivered. A
deferred change that its reply has released acts before the evaluation. At a LOCAL_FRAME_START with no tick, no
reply leaving and no loopback change, of a protected group: an accepted value of another group number, architecture
or direction makes PSF present with cause MISMATCH, also where it was a TIMEOUT, and the group transmits its top
local request; in a BOTH-ENDS group without PSF and with a received signal the timer is idle where the chosen
channel is the accepted one, starts at 0, starts again at 0 where the chosen channel has changed, and else rises by
1 up to its expiry at 400; in every other case it is idle; PSF stays, and its agreement count rises by 1 at each
start in agreement up to 400, where PSF ends, and returns to 0 out of agreement and at the start at which PSF
becomes present; the protocol state follows. -/
def Obligations.ConfirmTimerAndAgreement : Prop :=
  (∀ (g : Fin 8) (s : State),
    let u := s.openChanged
    let x := u.group g
    x.protected = true → Judgement.group g ∉ u.moment.done →
    let y := x.requested g u.moment.tick (u.memberSf g .w) (u.memberSd g .w) (u.memberSf g .p) (u.memberSd g .p)
    (∀ r, y.record.direction = .bothEnds → y.psf = none → y.accepted = some r → x.confirm = some 399 →
      y.txChannel = x.txChannel → y.txChannel ≠ r.channel → (s.group g).psf = none →
      ∃ t, exec (.confirmTimerExpiry g) s = .next t ∧ Agree [.pending, .inputs, .ports, .ssw] s t ∧
        Agree [.pending, .inputs, .ports, .ssw, .records] u t ∧
        (∀ h, h ≠ g → t.group h = u.group h) ∧
        (t.group g).psf = some .timeout ∧ (t.group g).confirm = none ∧ (t.group g).protocol = .fallback ∧
        (t.group g).txRequest = y.top.code ∧ (t.group g).txChannel = y.top.channel ∧
        (t.alarm (.psf g)).present = true) ∧
    (∀ r, x.psf.isSome = true → y.accepted = some r → y.mismatch g = false →
      (y.record.direction = .bothEnds → r.channel = y.txChannel) → x.agreement = 399 →
      ∃ t, exec (.psfEnd g) s = .next t ∧ Agree [.pending, .inputs, .ports, .ssw] s t ∧
        Agree [.pending, .inputs, .ports, .ssw, .records] u t ∧
        (∀ h, h ≠ g → t.group h = u.group h) ∧
        (t.group g).psf = none ∧ (t.group g).agreement = 0 ∧ (t.group g).protocol = .steady ∧
        (t.group g).txRequest = y.top.code ∧ (t.alarm (.psf g)).present = false)) ∧
  (∀ (x : FrameInputs) (s : State), s.moment.opened = false → s.coldRestartDue = false → s.Undisturbed →
    let u := State.reachFrame { s with inputs := { s.inputs with frame := x } }
    ∃ t, exec (.localFrameStart x) s = .next t ∧
      ∀ g, let z := u.group g
        let y := t.group g
        y.protected = true →
          let wrong : Bool :=
            match z.accepted with
            | some r => r.group.toNat != g.val || r.arch != y.record.arch || r.direction != y.record.direction
            | none => false
          (t.alarm (.psf g)).present = y.psf.isSome ∧
          y.protocol =
            (if y.psf.isSome = true then .fallback
             else if y.confirm.isSome = true then .switching
             else if z.accepted = none then .idle
             else .steady) ∧
          (wrong = true →
            y.psf = some .mismatch ∧ y.confirm = none ∧ y.agreement = 0 ∧
            y.txRequest = y.top.code ∧ y.txChannel = y.top.channel ∧
            (y.record.direction = .bothEnds → y.selector = if z.locked then .w else y.txChannel)) ∧
          (wrong = false → z.psf = none →
            y.agreement = 0 ∧
            (y.record.direction = .oneEnd ∨ z.accepted = none → y.psf = none ∧ y.confirm = none) ∧
            (∀ r, z.accepted = some r → y.record.direction = .bothEnds →
              let chosen : Member :=
                if y.top.code.toNat < receivedPriority r.request then r.channel else y.top.channel
              (chosen = r.channel → y.psf = none ∧ y.confirm = none ∧ y.txChannel = chosen) ∧
              (chosen ≠ r.channel →
                (z.confirm = none ∨ chosen ≠ z.txChannel →
                  y.psf = none ∧ y.confirm = some 0 ∧ y.txChannel = chosen) ∧
                (∀ n, z.confirm = some n → chosen = z.txChannel →
                  (n + 1 < 400 → y.psf = none ∧ y.confirm = some (n + 1) ∧ y.txChannel = chosen) ∧
                  (400 ≤ n + 1 →
                    y.psf = some .timeout ∧ y.confirm = none ∧
                    y.txRequest = y.top.code ∧ y.txChannel = y.top.channel))))) ∧
          (wrong = false → z.psf.isSome = true →
            y.confirm = none ∧
            let agrees : Bool :=
              match z.accepted with
              | some r => y.record.direction == .oneEnd || r.channel == y.txChannel
              | none => false
            (agrees = false → y.psf = z.psf ∧ y.agreement = 0) ∧
            (agrees = true → z.agreement + 1 < 400 → y.psf = z.psf ∧ y.agreement = z.agreement + 1) ∧
            (agrees = true → 400 ≤ z.agreement + 1 → y.psf = none ∧ y.agreement = 0)))

/-! ## Section 5: interval measurement -/

/-- Which vernier a claimed arrival is given: the lowest-numbered one that is FREE with a CAL in force and
permitted, where V0 is permitted to the reference arrival, and to others only while no reference is selected; none
if there is none (R89). -/
def Obligations.ArbiterGivesTheLowestUsable : Prop :=
  ∀ (reference : Bool) (s : State),
    let may : Fin 4 → Prop := fun v =>
      ((s.vernier v).state = .free ∧ (s.vernier v).cal.isSome = true) ∧
        (v ≠ 0 ∨ reference = true ∨ s.tmu.selected = none)
    (∀ v, s.arbitrate reference = some v → may v ∧ ∀ w, w < v → ¬may w) ∧
    (s.arbitrate reference = none → ∀ v, ¬may v)

/-- STATION_PULSE, with the edges counted since the divider's last count, of which the last is the pulse edge. The
divider gives a pulse at the 256th edge and at no other; it then begins anew, and the edges are counted in the local
frame. At the clock `u.imu.clk` that latches it the pulse of a candidate whose claim is open takes the vernier that
the arbiter gives once the conversions of that clock have ended (log entry 47), which is BUSY until 8 clocks after
that clock (log entry 22) with the latched count, the reading and the CAL in force, and closes the claim; with no
vernier the coarse stamp count rises. A pulse that no claim meets changes nothing but the time and the divider. The
row as a report of the edges since the last count, and that a report of another number of edges finds nothing to do,
are the model's choice (log entries 21 and 3). -/
def Obligations.StationPulseIsStamped : Prop :=
  ∀ (i : Fin 2) (n : Nat) (a : Arrival) (s : State),
    let d := (s.tmu.stations[i]).divider
    let u := (s.advanceTo (s.latchClock a)).modStation i fun x => { x with divider := 0, counted := x.counted + n }
    let k := stationCand i
    let reference : Bool := u.tmu.selected == some k
    (d + n ≠ 256 → exec (.stationPulse i ⟨n, a⟩) s = .next s) ∧
    (d + n = 256 → u.candClaims k = false → exec (.stationPulse i ⟨n, a⟩) s = .next u) ∧
    (d + n = 256 → u.candClaims k = true →
      ∃ t, exec (.stationPulse i ⟨n, a⟩) s = .next t ∧ Agree [.pending, .inputs, .moment, .ports, .ssw, .records, .csv, .mci] u t ∧
        (t.cand k).claim = false ∧ (∀ j, j ≠ k → t.cand j = u.cand j) ∧
        t.imu.clk = u.imu.clk ∧ t.imu.burst = u.imu.burst ∧
        (∀ v, u.arbitrate reference = some v →
          t.imu.coarseCount = u.imu.coarseCount ∧ (∀ w, w ≠ v → t.vernier w = u.vernier w) ∧
          t.vernier v =
            { u.vernier v with
              state := .busy
                { stamp := .fine u.timeCounter a.tap.toNat ((u.vernier v).cal.getD 0), due := u.imu.clk + 8,
                  candidate := some k, echo := none } }) ∧
        (u.arbitrate reference = none →
          t.imu.verniers = u.imu.verniers ∧ t.imu.coarseCount = bump u.imu.coarseCount 65535))

/-- STAMP_COMPLETE: the conversion of a BUSY vernier ends at its clock, and the vernier returns to FREE, or begins
its calibration turn if the round has waited for it; the echoing end that awaits this stamp has it as its pending
echo. A conversion that ends beyond the coming local frame start is not yet complete, nor one that ends after an
instant still open (log entry 2), and a vernier that is not BUSY has nothing to complete (log entry 3). Where it is
the only one running and its stamp is that of the echo found for the outstanding slot of the active audit, the slot
becomes a present sample: its RT is the interval from the departure, its TA the received one, or the default TA as
an assumed one where none was received; it is coarse with a coarse stamp or a received coarse flag; without a
default TA it is missing. The audit goes on while another slot is pending, and else ends with an AUDIT record. -/
def Obligations.StampCompletes : Prop :=
  ∀ (v : Fin 4) (s : State),
    (∀ c, (s.vernier v).state = .busy c →
      (c.due ≤ s.horizon →
        ∃ t, exec (.stampComplete v) s = .next t ∧
          Agree [.pending, .inputs, .moment, .ports, .ssw, .records, .mci] s t ∧
          t.imu.clk = max s.imu.clk c.due ∧ t.tmu.nextStart = s.tmu.nextStart ∧
          (∀ r, s.imu.round = some r → r.turn = v → r.begun = false → (t.vernier v).state = .calibrating) ∧
          ((∀ r, s.imu.round = some r → r.turn ≠ v ∨ r.begun = true) → (t.vernier v).state = .free) ∧
          (t.vernier v).cal = (s.vernier v).cal ∧ (t.vernier v).faulted = (s.vernier v).faulted ∧
          (∀ p, (s.cable p).awaited = some v →
            (t.cable p).pendingEcho = some c.stamp ∧ (t.cable p).awaited = none)) ∧
      (s.horizon < c.due → exec (.stampComplete v) s = .next s)) ∧
    ((s.vernier v).due = none → exec (.stampComplete v) s = .next s) ∧
    (∀ (c : Conversion) (f : BitVec 24) (b : Burst) (before after : List SampleSlot) (d : Stamp) (n : Nat),
      (s.vernier v).state = .busy c → c.due ≤ s.horizon → (∀ w, w ≠ v → (s.vernier w).due = none) →
      c.echo = some f → s.imu.burst = some b → b.slots = before ++ .outstanding d n true :: after →
      (before ++ after).any SampleSlot.isOutstanding = false →
      let rt := interval d c.stamp
      let slot : SampleSlot :=
        if f = 0xFFFFFF#24 then
          match b.defaultTa with
          | some ta => .present (delaySample rt ta b.ofs c.stamp.isCoarse true)
          | none => .missing
        else .present (delaySample rt (f.toNat % 8388608 : Nat) b.ofs (c.stamp.isCoarse || f.getLsbD 23) false)
      let b' : Burst := { b with slots := before ++ slot :: after }
      ∃ t, exec (.stampComplete v) s = .next t ∧
        ((before ++ after).any SampleSlot.isPending = true → t.imu.burst = some b') ∧
        ((before ++ after).any SampleSlot.isPending = false →
          t.imu.burst = none ∧ (t.cable b.port).lastResult = some b'.reduce ∧ Reported (.audit b.port b'.reduce) s t))

/-- CALIBRATION_TURN_END, 64 clocks after the turn began: the result is the mean of the 64 readings rounded half up;
one of 24 to 63 is the CAL in force and frees the vernier, another leaves it in CAL-FAULT without a CAL and sets
FAULT; CAL is present exactly while a vernier is in fault; the round goes to the next vernier, and after V3 it ends
or, if one is pending, begins again at V0. CALIBRATE, where a reply can be queued, begins a round at V0, whose turn
waits for a conversion of V0, or makes one pending while one runs; it is answered DONE. -/
def Obligations.CalibrationTurnEnds : Prop :=
  (∀ (readings : Vector Nat 64) (v : Fin 4) (n : Nat) (s : State), s.imu.round = some ⟨v, true, n⟩ →
    n + 64 ≤ s.horizon →
    let u := s.advanceTo (n + 64)
    let m := (2 * (readings.toList.map fun x => min x 64).sum + 64) / 128
    let ok : Bool := decide (24 ≤ m ∧ m ≤ 63)
    ∃ t, exec (.calibrationTurnEnd readings) s = .next t ∧
      Agree [.pending, .inputs, .moment, .ports, .ssw, .records, .csv, .mci] u t ∧
      t.vernier v =
        { state := if ok then .free else .calFault, cal := if ok then some m else none, lastResult := some m,
          faulted := !ok } ∧
      t.imu.calDefect = (List.finRange 4).any (fun w => (t.vernier w).faulted) ∧
      (t.alarm .cal).present = t.imu.calDefect ∧
      (t.imu.round.map Round.turn =
        if v.val < 3 then some (v + 1) else if s.imu.roundPending then some 0 else none) ∧
      t.imu.roundPending = (if v = 3 then false else s.imu.roundPending) ∧
      (ok = false → t.queue.news.fault = true)) ∧
  (∀ (tag : Byte) (s : State), s.canTake = true →
    (s.imu.round.isSome = true →
      exec (.calibrate tag) s =
        .next (State.answered tag 9 (.plain .done) { s with imu := { s.imu with roundPending := true } })) ∧
    (s.imu.round = none → (s.vernier 0).due = none →
      exec (.calibrate tag) s =
        .next (State.answered tag 9 (.plain .done)
          { s with imu := { s.imu with
              verniers := s.imu.verniers.set 0 { s.vernier 0 with state := .calibrating },
              round := some { turn := 0, begun := true, since := s.imu.clk } } })) ∧
    (s.imu.round = none → (s.vernier 0).due.isSome = true →
      exec (.calibrate tag) s =
        .next (State.answered tag 9 (.plain .done)
          { s with imu := { s.imu with round := some { turn := 0, begun := false, since := s.imu.clk } } })))

/-- Stamps and intervals: the fine correction of an arrival is 256·f/CAL rounded half up with the reading clamped to
CAL, a departure's is 0 and a coarse stamp's 128, which alone is marked coarse; the time of a stamp is 256 times its
count less the correction; an interval is 256 times the difference of the counts modulo 2^24, less the second
correction, plus the first. -/
def Obligations.StampArithmetic : Prop :=
  (∀ c : BitVec 24, (Stamp.exact c).correction = 0 ∧ (Stamp.exact c).isCoarse = false ∧
    (Stamp.coarse c).correction = 128 ∧ (Stamp.coarse c).isCoarse = true) ∧
  (∀ (c : BitVec 24) (f cal : Nat), 0 < cal →
    let q := (Stamp.fine c f cal).correction
    (Stamp.fine c f cal).isCoarse = false ∧
    q ≤ 256 ∧ 2 * cal * q ≤ 512 * min f cal + cal ∧ 512 * min f cal + cal < 2 * cal * (q + 1)) ∧
  (∀ a : Stamp, interval (.exact 0) a = 256 * a.count.toNat - a.correction) ∧
  (∀ a b : Stamp, ∃ n : Nat, n < 2 ^ 24 ∧ (a.count.toNat + n) % 2 ^ 24 = b.count.toNat ∧
    interval a b = 256 * n - b.correction + a.correction)

/-- The delay of a sample: with x = RT − TA − OFS, the half of x rounded half up and clamped to 1,048,575, or 0 and
the implausible mark where x is below 0; the sample keeps RT, the TA used and its other marks. -/
def Obligations.DelayOfASample : Prop :=
  ∀ (rt ta ofs : Int) (coarse assumed : Bool),
    let d := delaySample rt ta ofs coarse assumed
    let x := rt - ta - ofs
    d.rt = rt ∧ d.ta = ta ∧ d.coarse = coarse ∧ d.assumed = assumed ∧
    (0 ≤ x → d.implausible = false ∧ (d.delay : Int) = min ((x + 1) / 2) 1048575) ∧
    (x < 0 → d.implausible = true ∧ d.delay = 0)

/-- The reduction of a burst record of N slots with n present ones, the others counted missing: below ⌈N/2⌉ the
audit has failed and has no delay and no spread; otherwise it has completed, its delay is the mean of the delays
rounded half up, its spread the largest less the smallest, it is unstable when the spread exceeds a spread limit
above 0, and it carries each mark that a present sample carries. -/
def Obligations.BurstReduction : Prop :=
  ∀ b : Burst,
    let xs := b.samples
    let n := xs.length
    let total := b.slots.length
    let r := b.reduce
    r.burst = total ∧ r.present = n ∧
    (n < (total + 1) / 2 → r.completed = false ∧ r.delay = none ∧ r.spread = none) ∧
    ((total + 1) / 2 ≤ n → r.completed = true ∧
      r.coarse = xs.any Sample.coarse ∧ r.assumed = xs.any Sample.assumed ∧
      r.implausible = xs.any Sample.implausible ∧
      (0 < n → r.delay = some ((2 * (xs.map Sample.delay).sum + n) / (2 * n)) ∧
        ∃ hi ∈ xs.map Sample.delay, ∃ lo ∈ xs.map Sample.delay,
          (∀ d ∈ xs.map Sample.delay, lo ≤ d ∧ d ≤ hi) ∧ r.spread = some (hi - lo) ∧
          r.unstable = decide (0 < b.spreadLimit ∧ b.spreadLimit < hi - lo)))

/-! ## Section 6: cable supervision -/

/-- TRACE_ACCEPTED: the third equal multiframe makes a candidate that differs from the accepted trace the accepted
one, and compares it. Outside a patch window the verdict becomes LOOPED where it equals the transmitted trace
(unless the check is on and that trace is the expected one), MISCONNECTED where the check is on and it differs from
the expected one, and otherwise VERIFIED with no length limit, or TRACE-OK with one; TIM and LOOP are delivered,
VERIFIED removes the patch mark of the port's member and no other, MISCONNECTED and LOOPED fail the port's enabled
candidate, and the end of such a verdict takes a FAILED one without a flag condition to WAIT, or with a WTR of 0 to
AVAILABLE. In a window the verdict stays PATCHING. A candidate equal to the accepted trace is not compared again. -/
def Obligations.TraceAcceptedIsCompared : Prop :=
  ∀ (p : Fin 8) (c : Trace) (s : State), (s.cable p).traceRun = 2 → (s.cable p).traceCandidate = some c →
    let x := s.cable p
    let looped : Bool :=
      c == x.record.transmitted && !(x.record.check && x.record.expected == x.record.transmitted)
    let wrong : Bool := x.record.check && c != x.record.expected
    (x.accepted = some c → exec (.traceAccepted p) s = .next (s.modCable p fun y => { y with traceRun := 3 })) ∧
    (x.accepted ≠ some c →
      ∃ t, exec (.traceAccepted p) s = .next t ∧ Agree [.pending, .inputs, .moment, .ports, .ssw, .records, .mci] s t ∧
        (∀ q, q ≠ p → t.cable q = s.cable q) ∧
        (t.cable p).accepted = some c ∧ (t.cable p).traceRun = 3 ∧ (t.cable p).record = x.record ∧
        (x.verdict ≠ .patching →
          (t.cable p).verdict =
            (if looped then .looped else if wrong then .misconnected
             else if x.record.dmax = 0 then .verified else .traceOk) ∧
          (t.alarm (.port p .loop)).present = looped ∧
          (t.alarm (.port p .tim)).present = (!looped && wrong) ∧
          (looped = true → (t.cable p).pendingEcho = none) ∧
          MarksFollow p (t.cable p).verdict s t ∧ CandidateFollows p (t.cable p).verdict s t) ∧
        (x.verdict = .patching →
          (t.cable p).verdict = .patching ∧
          (t.cable p).pendingVerdict =
            some (if looped then .looped else if wrong then .misconnected
                  else if x.record.dmax = 0 then .verified else .traceOk)))

/-- ECHO at the coming local frame start: a pending echo whose arrival lies at least 64 clocks before it is sent
with the turnaround from that arrival to the frame mark, and is cleared; a younger one waits, and the row finds
nothing to do (log entry 3). -/
def Obligations.EchoCarriesTheTurnaround : Prop :=
  ∀ (p : Fin 8) (a : Stamp) (s : State), (s.cable p).echoOut = none → (s.openFrame.cable p).pendingEcho = some a →
    let u := s.openFrame
    let d := interval a (.exact u.frameMark)
    (16384 ≤ d →
      exec (.echo p) s =
        .next (u.modCable p fun c =>
          { c with
            echoOut := some ((if a.isCoarse then 0x800000#24 else 0#24) ||| (BitVec.ofInt 23 d).setWidth 24),
            pendingEcho := none })) ∧
    (d < 16384 → exec (.echo p) s = .next s)

/-- AUDIT_START at a coming local frame start of index 0 with no audit active: the head of the audit queue is taken.
A port in SYNC, not LOOPED and not in facility loopback gets a burst record of N pending slots, N the entry's own
burst or the table's; others before it are skipped, and the periodic timer of each is started, or stays idle with
period 0, in a window or in suspension. At any other index, with an audit active, or where one has ended at this
same local frame start (log entry 25), the row finds nothing to do (log entry 3). MEASURE of such a port that is
neither suspended nor active marks its queued entry, or queues an ad-hoc one, and is refused otherwise; of a port
above 7 it is refused with BAD-INDEX. -/
def Obligations.AuditsAreQueuedAndStarted : Prop :=
  (∀ (skipped : List AuditEntry) (e : AuditEntry) (rest : List AuditEntry) (s : State),
    let u := s.openFrame
    let r := (u.cable e.port).record
    let runs : AuditEntry → Prop := fun e =>
      (u.port e.port).align = .sync ∧ (u.cable e.port).verdict ≠ .looped ∧ (u.port e.port).loopback ≠ .facility
    let timed : State → Prop := fun t => ∀ q, let c := u.cable q
      ((∀ x ∈ skipped, x.port ≠ q) → t.cable q = c) ∧
      (∀ x ∈ skipped, x.port = q → ∃ z, t.cable q = { c with timer := z } ∧
        (c.record.period = 0 ∨ c.window.isSome = true ∨ c.suspended = true → z = none) ∧
        (0 < c.record.period → c.window = none → c.suspended = false →
          ∃ d, z = some { count := 0, target := 60 * c.record.period + d } ∧ d < 16))
    u.index = 0 → u.imu.burst = none → u.csv.endedAt ≠ u.tmu.frameNo → (∀ x ∈ skipped, ¬runs x) →
    (u.csv.audits = skipped ++ e :: rest → runs e →
      ∃ t, exec .auditStart s = .next t ∧
        Agree [.pending, .inputs, .moment, .ports, .ssw, .groups, .tmu, .alu, .queue, .mci] u t ∧
        t.csv.audits = rest ∧ timed t ∧ (skipped = [] → t.csv.dither = u.csv.dither) ∧
        t.imu.burst =
          some { port := e.port, adHoc := e.adHoc, ofs := r.ofs, defaultTa := r.defaultTa,
                 spreadLimit := r.spreadLimit, slots := List.replicate (e.burst.getD r.burst) .pending }) ∧
    (u.csv.audits = skipped → skipped ≠ [] →
      ∃ t, exec .auditStart s = .next t ∧
        Agree [.pending, .inputs, .moment, .ports, .ssw, .groups, .imu, .tmu, .alu, .queue, .mci] u t ∧
        t.csv.audits = [] ∧ timed t)) ∧
  (∀ s : State, let u := s.openFrame
    u.index ≠ 0 ∨ u.imu.burst ≠ none ∨ u.csv.endedAt = u.tmu.frameNo ∨ u.csv.audits = [] →
      exec .auditStart s = .next s) ∧
  (∀ (tag burst : Byte) (p : Fin 8) (s : State), s.canTake = true →
    let n := if 8 ≤ burst.toNat then 8 else if 4 ≤ burst.toNat then 4 else if 2 ≤ burst.toNat then 2 else 1
    let c := s.cable p
    let may : Prop := ((s.port p).align = .sync ∧ c.verdict ≠ .looped ∧ (s.port p).loopback ≠ .facility) ∧
      c.suspended = false ∧ s.auditActive p = false
    let queued : List AuditEntry :=
      if s.csv.audits.any (fun e => e.port == p) then
        s.csv.audits.map fun e =>
          if e.port = p then { e with adHoc := true, burst := some (max (e.burst.getD c.record.burst) n) } else e
      else s.csv.audits ++ [{ port := p, adHoc := true, burst := some n }]
    (may →
      exec (.measure tag (BitVec.ofNat 8 p.val) burst) s =
        .next (State.answered tag 5 (.plain (if n = burst.toNat then .done else .clamped))
          { s with csv := { s.csv with audits := queued } })) ∧
    (¬may → exec (.measure tag (BitVec.ofNat 8 p.val) burst) s = .next (s.answered tag 5 (.plain .refused)))) ∧
  (∀ (tag port burst : Byte) (s : State), s.canTake = true → 8 ≤ port.toNat →
    exec (.measure tag port burst) s = .next (s.answered tag 5 (.plain .badIndex)))

/-- MARKER_DEPARTURE at a coming local frame start with no slot outstanding and a slot pending: at or after the
drawn index, or for a marker that had to wait, MREQ is set on the port of the audit and the first pending slot holds
the exact stamp of the frame mark. -/
def Obligations.MarkerDeparts : Prop :=
  ∀ (b : Burst) (i : Nat) (s : State),
    let u := s.openFrame
    let m := u.csv.markers
    u.imu.burst = some b → b.waiting = false → b.slots.findIdx? SampleSlot.isPending = some i →
    u.index ≠ 0 ∨ b.slots.length ≤ m.draws ∨ m.drawnIn = u.tmu.frameNo →
    0 < m.due ∨ (∃ d, m.drawn = some d ∧ d ≤ u.index) →
    (s.cable b.port).markerOut = false →
    ∃ t, exec .markerDeparture s = .next t ∧
      Agree [.pending, .inputs, .moment, .ports, .ssw, .groups, .tmu, .alu, .queue, .mci] u t ∧
      (t.cable b.port).markerOut = true ∧ (∀ q, q ≠ b.port → t.cable q = u.cable q) ∧
      t.csv.audits = u.csv.audits ∧ t.csv.dither = u.csv.dither ∧
      t.imu.burst =
        some { b with slots := b.slots.set i (.outstanding (.exact u.frameMark) u.tmu.frameNo false) }

/-- ECHO_TIMEOUT and SUSPENSION: at the fourth local frame start after its departure an outstanding slot whose echo
has not been found is missing. With another slot pending the audit goes on; where it was the last slot, the audit
ends with an AUDIT record of its result, and MEASURE is set for an ad-hoc one. With half of the samples present or
more, the failure count is 0 and a verdict of TRACE-OK, VERIFIED or LENGTH becomes VERIFIED where Dmax is 0 or the
delay lies in Dmin to Dmax, and the spread is within its limit, else LENGTH; with the verdict PATCHING it is such a
pending verdict that is so judged, and any other verdict stays; VERIFIED removes the patch mark of the port's
member, and the candidate of the port follows the verdict. With fewer samples present the audit fails: verdict,
pending verdict and marks stay, and the failure count rises by 1. The third failing audit in a row suspends the
port: AUD is present and the periodic timer is idle. After any other audit the timer is started at 0 with a target
of 60 times the period plus a draw of 0 to 15, or is idle with a period of 0 or a window open. -/
def Obligations.EchoTimeoutAndSuspension : Prop :=
  ∀ (b : Burst) (before after : List SampleSlot) (d : Stamp) (n : Nat) (s : State),
    let u := s.openFrame
    b.slots = before ++ .outstanding d n false :: after → n + 4 ≤ u.tmu.frameNo →
    (before ++ after).any SampleSlot.isOutstanding = false →
    let reported : State → Prop := fun t =>
      Reported (.audit b.port b.reduce) u t ∧ t.queue.news.measure = (b.adHoc || u.queue.news.measure)
    let restarted : State → Prop := fun t =>
      let c := u.cable b.port
      (c.record.period = 0 ∨ c.window.isSome = true ∨ c.suspended = true →
        (t.cable b.port).timer = none ∧ t.csv.dither = u.csv.dither) ∧
      (0 < c.record.period → c.window = none → c.suspended = false →
        (t.cable b.port).timer =
          some { count := 0, target := 60 * c.record.period + (ditherNext u.csv.dither).toNat % 16 } ∧
        t.csv.dither = ditherNext u.csv.dither)
    ((before ++ after).any SampleSlot.isPending = true → u.imu.burst = some b →
      exec .echoTimeout s =
        .next { u with imu := { u.imu with burst := some { b with slots := before ++ .missing :: after } } }) ∧
    ((before ++ after).any SampleSlot.isPending = false → u.imu.burst = some b →
      b.slots.length ≤ 2 * b.samples.length →
      let c := u.cable b.port
      let d := b.reduce.delay.getD 0
      let good : Prop := (c.record.dmax = 0 ∨ (c.record.dmin ≤ d ∧ d ≤ c.record.dmax)) ∧ b.reduce.unstable = false
      ∃ t, exec .echoTimeout s = .next t ∧ Agree [.pending, .inputs, .ports, .ssw, .records, .mci] s t ∧
        t.imu.burst = none ∧ (t.cable b.port).failures = 0 ∧ (t.cable b.port).lastResult = some b.reduce ∧
        (t.cable b.port).suspended = c.suspended ∧ reported t ∧ restarted t ∧
        (c.verdict = .traceOk ∨ c.verdict = .verified ∨ c.verdict = .length →
          (t.cable b.port).verdict = (if good then .verified else .length) ∧
          (t.alarm (.port b.port .len)).present = (!decide good) ∧
          MarksFollow b.port (t.cable b.port).verdict u t ∧ CandidateFollows b.port (t.cable b.port).verdict u t) ∧
        (c.verdict = .unverified ∨ c.verdict = .misconnected ∨ c.verdict = .looped ∨ c.verdict = .patching →
          (t.cable b.port).verdict = c.verdict ∧ MarksFollow b.port .unverified u t ∧ t.tmu = u.tmu) ∧
        (t.cable b.port).pendingVerdict =
          (if c.verdict = .patching ∧ (c.pendingVerdict = some .traceOk ∨ c.pendingVerdict = some .verified ∨
              c.pendingVerdict = some .length) then
            some (if good then .verified else .length)
          else c.pendingVerdict)) ∧
    ((before ++ after).any SampleSlot.isPending = false → u.imu.burst = some b →
      2 * b.samples.length < b.slots.length → (u.cable b.port).failures < 2 →
      let c := u.cable b.port
      ∃ t, exec .echoTimeout s = .next t ∧ Agree [.pending, .inputs, .ports, .ssw, .records, .mci] s t ∧
        t.imu.burst = none ∧ (t.cable b.port).failures = c.failures + 1 ∧
        (t.cable b.port).lastResult = some b.reduce ∧ (t.cable b.port).suspended = c.suspended ∧
        (t.cable b.port).verdict = c.verdict ∧ (t.cable b.port).pendingVerdict = c.pendingVerdict ∧
        reported t ∧ restarted t ∧ MarksFollow b.port .unverified u t ∧ t.tmu = u.tmu) ∧
    ((before ++ after).any SampleSlot.isPending = false → s.imu.burst = some b →
      2 * b.samples.length < b.slots.length → (s.cable b.port).failures = 2 →
      (s.cable b.port).suspended = false →
      ∃ t, exec (.suspension b.port) s = .next t ∧
        Agree [.pending, .inputs, .ports, .ssw, .records, .mci] s t ∧
        t.imu.burst = none ∧ (t.cable b.port).suspended = true ∧ (t.cable b.port).failures = 3 ∧
        (t.cable b.port).timer = none ∧ (t.alarm (.port b.port .aud)).present = true ∧
        (t.cable b.port).verdict = (s.cable b.port).verdict ∧
        (t.cable b.port).lastResult = some b.reduce ∧ reported t)

/-- PERIODIC_TIMER_EXPIRY at a coming tick, for a timer whose count reaches its target: of an IDLE port with verdict
TRACE-OK, VERIFIED or LENGTH an audit is queued and the timer is idle; of an IDLE port with another verdict it is
started again with a new draw; of any other port it is idle. -/
def Obligations.PeriodicTimerExpires : Prop :=
  ∀ (p : Fin 8) (x : PeriodicTimer) (s : State),
    let u := s.openFrame
    let c := u.cable p
    u.tickDue = true → Judgement.periodic p ∉ u.moment.done → (s.cable p).timer = some x →
    c.timer = some x → x.target ≤ x.count + 1 →
    let draw := (ditherNext u.csv.dither).toNat % 16
    let again : PeriodicTimer := { count := 0, target := 60 * c.record.period + draw }
    let good : Prop := c.verdict = .traceOk ∨ c.verdict = .verified ∨ c.verdict = .length
    let frame : State → Prop := fun t =>
      Agree [.pending, .inputs, .ports, .ssw, .groups, .imu, .tmu, .alu, .queue, .mci] u t ∧
        ∀ q, q ≠ p → t.cable q = u.cable q
    (u.auditState p = .idle → good →
      ∃ t, exec (.periodicTimerExpiry p) s = .next t ∧ frame t ∧ t.cable p = { c with timer := none } ∧
        t.csv.audits = u.csv.audits ++ [{ port := p, adHoc := false, burst := none }]) ∧
    (u.auditState p = .idle → ¬good → 0 < c.record.period → c.window = none →
      ∃ t, exec (.periodicTimerExpiry p) s = .next t ∧ frame t ∧ t.csv.audits = u.csv.audits ∧
        t.csv.dither = ditherNext u.csv.dither ∧
        t.cable p = { c with timer := some again }) ∧
    (u.auditState p ≠ .idle →
      ∃ t, exec (.periodicTimerExpiry p) s = .next t ∧ frame t ∧ t.csv.audits = u.csv.audits ∧
        t.cable p = { c with timer := none })

/-- PATCH OPEN, where a reply can be queued and no change is pending: a port whose window is open is refused with
BAD-STATE; without the override flag a port is refused where the window would leave its group's traffic on it (a
group defined since the last local frame start counts its working port as the selected one, log entry 32); otherwise
the window opens for 60 times the minutes, taken into 1 to 120, the verdict is PATCHING with no pending verdict,
TIM, LOOP and LEN are absent, the port's alarms follow the PATCH profile, the member of a protected group is marked,
the port's enabled candidate fails from WAIT and AVAILABLE, the periodic timer is idle, and a PATCH record of cause
OPEN or OPEN-OVERRIDE is written. The transmit-disable output of the port is asserted at once with the dark-patch
flag, and otherwise as its transmitter setting says. -/
def Obligations.PatchWindowOpens : Prop :=
  ∀ (tag minutes override : Byte) (p : Fin 8) (s : State), s.canTake = true → s.changePending = false →
    override.toNat ≤ 1 →
    let b : Byte := BitVec.ofNat 8 p.val
    let n := if minutes.toNat < 1 then 1 else if 120 < minutes.toNat then 120 else minutes.toNat
    let traffic : Prop := ∃ m, s.membership p = some m ∧
      ((s.group m.1).protected = false ∨
        ((s.group m.1).oldPort = some p ∧
          (s.memberSf m.1 (otherMember m.2) = true ∨ s.windowOn ((s.group m.1).portOf (otherMember m.2)) = true ∨
            (m.2 = .w ∧ (s.group m.1).operator = .lock))))
    ((s.cable p).window.isSome = true →
      exec (.patchOpen tag b minutes override) s = .next (s.answered tag 4 (.plain .badState))) ∧
    ((s.cable p).window = none → override = 0 → traffic →
      exec (.patchOpen tag b minutes override) s = .next (s.answered tag 4 (.plain .refused))) ∧
    ((s.cable p).window = none → override = 1 ∨ ¬traffic →
      ∃ t, exec (.patchOpen tag b minutes override) s = .next t ∧
        Agree [.pending, .inputs, .moment, .ports, .ssw, .records, .imu] s t ∧
        (∀ q, q ≠ p → t.cable q = s.cable q) ∧
        (t.cable p).window = some { remaining := 60 * n, override := override == 1 } ∧
        (t.cable p).verdict = .patching ∧ (t.cable p).pendingVerdict = none ∧ (t.cable p).timer = none ∧
        (t.cable p).record = (s.cable p).record ∧ t.alu.patched = s.alu.patched.set p true ∧
        (t.alarm (.port p .tim)).present = false ∧ (t.alarm (.port p .loop)).present = false ∧
        (t.alarm (.port p .len)).present = false ∧
        (∀ m, s.membership p = some m → (s.group m.1).protected = true →
          (m.2 = .w → (t.group m.1).markW = true) ∧ (m.2 = .p → (t.group m.1).markP = true)) ∧
        ((s.cand (portCand p)).entry.enabled = true → (t.cand (portCand p)).state ≠ .available) ∧
        CandidateFollows p .patching s t ∧
        Reported (.patch p (if override = 1 then .openOverride else .opened)) s t ∧
        t.txDisable p = (!(s.port p).settings.txEnabled || (s.cable p).record.dark) ∧
        (∀ q, q ≠ p → t.txDisable q = s.txDisable q) ∧
        t.mci.replies.length = s.mci.replies.length + 1)

/-- PATCH CLOSE and WINDOW_EXPIRED: the verdict becomes the pending verdict, or UNVERIFIED if there is none, the
window is gone, a verdict of VERIFIED removes the patch mark of the port's member and any other keeps it, the port's
candidate follows the verdict, the port's alarms follow its own profile again, an IDLE port is queued for an audit,
the periodic timer is started with a new draw (or is idle with a period of 0 or a suspension), and a PATCH record of
cause CLOSE or EXPIRED is written. The transmit-disable output is released unless the transmitter is set off. A
window with more than one second remaining does not expire (log entry 3), and a PATCH CLOSE without a window is
refused with BAD-STATE. -/
def Obligations.PatchWindowCloses : Prop :=
  ∀ (p : Fin 8) (s : State),
    let u := s.openFrame
    let b : Byte := BitVec.ofNat 8 p.val
    let closed : PatchCause → State → State → Prop := fun cause v t =>
      Reported (.patch p cause) v t ∧ t.txDisable p = !(v.port p).settings.txEnabled ∧
        (∀ q, q ≠ p → t.txDisable q = v.txDisable q) ∧
      (∀ q, q ≠ p → t.cable q = v.cable q) ∧ (t.cable p).window = none ∧
        (t.cable p).pendingVerdict = none ∧ (t.cable p).verdict = (v.cable p).pendingVerdict.getD .unverified ∧
        (t.cable p).record = (v.cable p).record ∧ t.alu.patched = v.alu.patched.set p false ∧
        (t.alarm (.port p .tim)).present = ((t.cable p).verdict == .misconnected) ∧
        (t.alarm (.port p .loop)).present = ((t.cable p).verdict == .looped) ∧
        MarksFollow p (t.cable p).verdict v t ∧ CandidateFollows p (t.cable p).verdict v t ∧
        (let x := v.cable p
         (x.record.period = 0 ∨ x.suspended = true → (t.cable p).timer = none ∧ t.csv.dither = v.csv.dither) ∧
         (0 < x.record.period → x.suspended = false →
           (t.cable p).timer =
             some { count := 0, target := 60 * x.record.period + (ditherNext v.csv.dither).toNat % 16 } ∧
           t.csv.dither = ditherNext v.csv.dither)) ∧
        (v.auditState p = .idle →
          t.csv.audits = v.csv.audits ++ [{ port := p, adHoc := false, burst := none }]) ∧
        (v.auditState p ≠ .idle → t.csv.audits = v.csv.audits)
    (∀ tag minutes override : Byte, s.canTake = true → s.changePending = false →
      ((s.cable p).window.isSome = true →
        ∃ t, exec (.patchClose tag b minutes override) s = .next t ∧ closed .closed s t ∧
          Agree [.pending, .inputs, .moment, .ports, .ssw, .records, .imu] s t ∧
          t.mci.replies.length = s.mci.replies.length + 1) ∧
      ((s.cable p).window = none →
        exec (.patchClose tag b minutes override) s = .next (s.answered tag 4 (.plain .badState)))) ∧
    (∀ w, u.tickDue = true → Judgement.window p ∉ u.moment.done → (s.cable p).window = some w →
      (u.cable p).timer = none →
      (w.remaining ≤ 1 →
        ∃ t, exec (.windowExpired p) s = .next t ∧ closed .expired u t ∧
          Agree [.pending, .inputs, .ports, .ssw, .records, .mci] s t) ∧
      (1 < w.remaining → exec (.windowExpired p) s = .next s))

/-- WRITE_CABLE of one record, where a reply can be queued: a record with a character above 7F hex, a reserved
control bit or Dmax below Dmin (Dmax above 0) is refused with BAD-VALUE and changes nothing but the reply; another
is stored clamped and rounded, and answered DONE, or DONE-CLAMPED where a field was changed. Numbers are big-endian:
the expected trace in bytes 0 to 15, the transmitted one in 16 to 31, check and dark patch in bits 0 and 1 of byte
32, Dmin and Dmax up to 1,048,575 in 33 to 35 and 36 to 38, OFS signed in 39 and 40, the default turnaround in 41 to
43, absent at FFFFFF hex and else up to 8,388,607, the burst rounded down to 1, 2, 4 or 8 in 44, the period in 45,
the spread limit in 46 and 47. No other port's record changes, and no port's window; the dark-patch flag acts on the
transmit-disable output at once. With a trace or the check changed the accepted trace is compared: the verdict, or
in a patch window the pending one, is LOOPED, MISCONNECTED, VERIFIED with no length limit or TRACE-OK with one,
which queues an audit of an idle port; the patch marks and the candidate of the port follow a verdict. With Dmin,
Dmax or the spread limit changed TRACE-OK without a length limit becomes VERIFIED, and an idle port in TRACE-OK,
VERIFIED or LENGTH else has an audit queued. With the period changed the timer starts with a new draw, or is idle
with a period of 0, a window or a suspension. That each acts only where its field changes, and the comparison first,
is the model's reading (log entry 28). -/
def Obligations.CableWrites : Prop :=
  ∀ (tag : Byte) (p : Fin 8) (e : List Byte) (s : State), s.canTake = true → e.length = 48 →
    let b : Byte := BitVec.ofNat 8 p.val
    let r := cableRecordOf e
    let v : Nat → Nat := fun i => (e.getD i 0).toNat
    let v2 : Nat → Nat := fun i => v i * 256 + v (i + 1)
    let v3 : Nat → Nat := fun i => v i * 65536 + v2 (i + 1)
    let bad : Prop := (∃ c ∈ e.take 32, 128 ≤ c.toNat) ∨ 4 ≤ v 32 ∨ (0 < r.dmax ∧ r.dmax < r.dmin)
    ((∀ i : Fin 16, (r.expected[i]).toNat = v i % 128 ∧ (r.transmitted[i]).toNat = v (16 + i) % 128) ∧
      r.check = decide (v 32 % 2 = 1) ∧ r.dark = decide (v 32 / 2 % 2 = 1) ∧ r.dmin = min 1048575 (v3 33) ∧
      r.dmax = min 1048575 (v3 36) ∧
      r.ofs = (if v2 39 < 32768 then (v2 39 : Int) else (v2 39 : Int) - 65536) ∧
      r.defaultTa = (if v3 41 = 0xFFFFFF then none else some (min 8388607 (v3 41))) ∧
      r.burst = (if 8 ≤ v 44 then 8 else if 4 ≤ v 44 then 4 else if 2 ≤ v 44 then 2 else 1) ∧ r.period = v 45 ∧
      r.spreadLimit = v2 46 ∧
      (cableClamped e = true ↔ 1048575 < v3 33 ∨ 1048575 < v3 36 ∨ (v3 41 ≠ 0xFFFFFF ∧ 8388607 < v3 41) ∨
        r.burst ≠ v 44)) ∧
    (bad →
      exec (.writeCable tag b e) s =
        .next (s.answered tag 2 { Answer.plain .badValue with data := refusedIndex (some p.val) })) ∧
    (¬bad →
      ∃ t, exec (.writeCable tag b e) s = .next t ∧
        Agree [.pending, .inputs, .moment, .ports, .ssw, .records, .imu] s t ∧
        (∀ q, q ≠ p → t.cable q = s.cable q) ∧ (t.cable p).record = r ∧
        (t.cable p).window = (s.cable p).window ∧ (t.cable p).accepted = (s.cable p).accepted ∧
        t.txDisable p = (!(s.port p).settings.txEnabled || ((s.cable p).window.isSome && r.dark)) ∧
        (∀ q, q ≠ p → t.txDisable q = s.txDisable q) ∧
        (let x := s.cable p
         let y := t.cable p
         let retraced : Prop := r.expected ≠ x.record.expected ∨ r.check ≠ x.record.check ∨
           r.transmitted ≠ x.record.transmitted
         let rewindowed : Prop := r.dmin ≠ x.record.dmin ∨ r.dmax ≠ x.record.dmax ∨
           r.spreadLimit ≠ x.record.spreadLimit
         let judged : Trace → Verdict := fun c =>
           if c = r.transmitted ∧ ¬(r.check = true ∧ r.expected = r.transmitted) then .looped
           else if r.check = true ∧ c ≠ r.expected then .misconnected
           else if r.dmax = 0 then .verified
           else .traceOk
         let shown : Verdict → Prop := fun v =>
           y.verdict = v ∧ (t.alarm (.port p .tim)).present = decide (v = .misconnected) ∧
             (t.alarm (.port p .loop)).present = decide (v = .looped) ∧ (t.alarm (.port p .len)).present = false ∧
             MarksFollow p v s t ∧ CandidateFollows p v s t
         let kept : Prop := t.csv.audits = s.csv.audits
         let asked : Prop := t.csv.audits =
           if s.auditState p = .idle then s.csv.audits ++ [{ port := p, adHoc := false, burst := none }]
           else s.csv.audits
         (∀ c, retraced → x.accepted = some c →
           (x.verdict ≠ .patching →
             shown (judged c) ∧ (judged c = .looped → y.pendingEcho = none) ∧
             (judged c = .traceOk ∨ (rewindowed ∧ judged c = .verified) → asked) ∧
             (judged c ≠ .traceOk → ¬rewindowed ∨ judged c ≠ .verified → kept)) ∧
           (x.verdict = .patching →
             y.verdict = .patching ∧ y.pendingVerdict = some (judged c) ∧ kept)) ∧
         (¬retraced ∨ x.accepted = none →
           y.pendingVerdict = x.pendingVerdict ∧
           (rewindowed → x.verdict = .traceOk → r.dmax = 0 → shown .verified ∧ kept) ∧
           (rewindowed → (x.verdict = .traceOk ∧ 0 < r.dmax) ∨ x.verdict = .verified ∨ x.verdict = .length →
             y.verdict = x.verdict ∧ asked) ∧
           (¬rewindowed ∨ (x.verdict ≠ .traceOk ∧ x.verdict ≠ .verified ∧ x.verdict ≠ .length) →
             y.verdict = x.verdict ∧ kept)) ∧
         (r.period = x.record.period → y.timer = x.timer ∧ t.csv.dither = s.csv.dither) ∧
         (r.period ≠ x.record.period →
           (r.period = 0 ∨ x.window.isSome = true ∨ x.suspended = true →
             y.timer = none ∧ t.csv.dither = s.csv.dither) ∧
           (0 < r.period → x.window = none → x.suspended = false →
             y.timer = some { count := 0, target := 60 * r.period + (ditherNext s.csv.dither).toNat % 16 } ∧
             t.csv.dither = ditherNext s.csv.dither))) ∧
        t.mci.replies.map Reply.bytes = s.mci.replies.map Reply.bytes ++
          [(t.replyOf tag 2 { result := if cableClamped e then .clamped else .done, data := refusedIndex none,
                              effect := .plain }).bytes])

/-! ## Section 7: station timing -/

/-- The phase samples of the selected reference. Where the conversion of vernier `v` is the only one running, ends
in this local frame inside the sample window, and converts the arrival of the selected reference: the first present
sample sets the anchor; the error is the wrapped difference from the anchor; I and FW become floor divisions of it
by 2^KI and 2^KP, clamped to -2047 … +2047; the sixteenth sample in a row at or below the lock threshold enters
LOCKED. In LOCKED a sample above four times the threshold raises the unlock count by 1 and any other sets it to 0,
the loop moves alike, and the fourth in a row above it returns to ACQUIRE with the same reference and anchor. Each
change writes a REFSEL record of the new state with the reference and sets TIMING. STAMP_COMPLETE, ENTER_LOCKED and
UNLOCK are this conversion's end; the latter two find nothing to do before their count is reached (log entry 3). The
stamp is no echo's. -/
def Obligations.LoopLocksAndUnlocks : Prop :=
  ∀ (k : Fin 10) (v : Fin 4) (s : State), s.tmu.selected = some k → (s.cand k).entry.enabled = true →
    ∀ c, (s.vernier v).state = .busy c → c.candidate = some k → c.echo = none → (∀ w, w ≠ v → (s.vernier w).due = none) → (∀ p, (s.cable p).awaited ≠ some v) →
    c.due ≤ s.horizon → c.due ≤ s.windowEnd →
    let x := s.tmu.settings
    let r := interval (.exact s.multiframeMark) c.stamp
    let p0 := s.tmu.anchor.getD r
    let d := r - p0
    let e := if d < -524288 then d + 1048576 else if 524287 < d then d - 1048576 else d
    let i := max (-2047) (min 2047 (s.tmu.integral + e / (2 ^ x.ki : Int)))
    let fw := max (-2047) (min 2047 (i + e / (2 ^ x.kp : Int)))
    let tracked : State → Prop := fun t =>
      Agree [.pending, .inputs, .moment, .ports, .ssw, .records, .csv, .mci] s t ∧ t.tmu.selected = some k ∧
        t.tmu.anchor = some p0 ∧ t.tmu.lastError = some e ∧ t.tmu.integral = i ∧ t.tmu.fw = fw ∧
        t.tmu.acc = s.tmu.acc ∧ t.tmu.settings = x ∧ (t.cand k).lastR = some (r, c.stamp.isCoarse) ∧
        (t.cand k).missing = 0
    (s.tmu.state = .acquire →
      ∃ t, exec (.stampComplete v) s = .next t ∧ tracked t ∧
        (x.threshold < e.natAbs → t.tmu.state = .acquire ∧ t.tmu.lockCount = 0) ∧
        (e.natAbs ≤ x.threshold → s.tmu.lockCount < 15 →
          t.tmu.state = .acquire ∧ t.tmu.lockCount = s.tmu.lockCount + 1)) ∧
    (s.tmu.state = .acquire → e.natAbs ≤ x.threshold → s.tmu.lockCount = 15 →
      ∃ t, exec .enterLocked s = .next t ∧ tracked t ∧ t.tmu.state = .locked ∧ t.tmu.lockCount = 0 ∧
        t.queue.news.timing = true ∧ Reported (.refsel .locked (some k)) s t) ∧
    (s.tmu.state = .acquire → s.tmu.lockCount < 15 → exec .enterLocked s = .next s) ∧
    (s.tmu.state = .locked → (4 * x.threshold < e.natAbs → s.tmu.unlockCount < 3) →
      ∃ t, exec (.stampComplete v) s = .next t ∧ tracked t ∧ t.tmu.state = .locked ∧
        t.tmu.lockCount = s.tmu.lockCount ∧
        t.tmu.unlockCount = (if 4 * x.threshold < e.natAbs then s.tmu.unlockCount + 1 else 0)) ∧
    (s.tmu.state = .locked → 4 * x.threshold < e.natAbs → s.tmu.unlockCount = 3 →
      ∃ t, exec .unlock s = .next t ∧ tracked t ∧ t.tmu.state = .acquire ∧ t.tmu.unlockCount = 0 ∧
        t.queue.news.timing = true ∧ Reported (.refsel .acquire (some k)) s t) ∧
    (s.tmu.state = .locked → s.tmu.unlockCount < 3 → exec .unlock s = .next s)

/-- PHASE_SAMPLE_MISSING, REF_PRESENT and REF_ABSENT. A sample whose claim is still open when the window closes is
missing: the history is cleared, with the last R (log entry 19), the missing count rises, and the third in a row
makes REF present; a missing sample of the selected reference clears the lock and unlock counts. A present sample
that fills the history to 8 drifts of estimate at most 160 in size makes REF absent as the eighth good one; one of a
larger estimate makes REF present. REF is delivered. Short of its count REF_ABSENT finds nothing to do (log entry
3). -/
def Obligations.ReferenceMonitoring : Prop :=
  (∀ (k : Fin 10) (s : State),
    let u := s.advanceTo s.windowEnd
    let c := u.cand k
    (s.cand k).claim = true → s.windowEnd ≤ s.horizon → c.claim = true → c.entry.enabled = true →
    ∃ t, exec (.phaseSampleMissing k) s = .next t ∧
      Agree [.pending, .inputs, .moment, .ports, .ssw, .records, .imu, .csv, .mci] u t ∧
      (∀ j, j ≠ k → t.cand j = u.cand j) ∧
      t.cand k =
        { c with drifts := [], previousR := none, lastR := none, missing := bump c.missing 3, good := 0,
                 ref := c.ref || decide (2 ≤ c.missing), claim := false } ∧
      (t.alarm (refAlarm k)).present = (t.cand k).ref ∧ t.tmu.integral = u.tmu.integral ∧ t.tmu.fw = u.tmu.fw ∧
      (u.tmu.selected = some k → t.tmu.lockCount = 0 ∧ t.tmu.unlockCount = 0) ∧
      ((s.cand k).ref = false → c.missing = 2 → exec (.refPresent k) s = .next t ∧ (t.cand k).ref = true)) ∧
  (∀ (k : Fin 10) (v : Fin 4) (s : State), (s.cand k).entry.enabled = true → (s.cand k).claim = false →
    ∀ c, (s.vernier v).state = .busy c → c.candidate = some k → c.echo = none →
    (∀ w, w ≠ v → (s.vernier w).due = none) → (∀ p, (s.cable p).awaited ≠ some v) → c.due ≤ s.horizon → c.due ≤ s.windowEnd →
    ∀ y, (s.cand k).previousR = some y →
    let r := interval (.exact s.multiframeMark) c.stamp
    let z := r - y
    let d := if z < -524288 then z + 1048576 else if 524287 < z then z - 1048576 else z
    let ds := if (s.cand k).drifts.length = 8 then (s.cand k).drifts.tail ++ [d] else (s.cand k).drifts ++ [d]
    let est := ds.sum.tdiv 8
    let sampled : State → Prop := fun t =>
      Agree [.pending, .inputs, .moment, .ports, .ssw, .records, .csv, .mci] s t ∧ (t.cand k).drifts = ds ∧
        (t.cand k).previousR = some r ∧ (t.cand k).missing = 0 ∧ (t.cand k).entry = (s.cand k).entry ∧
        (t.alarm (refAlarm k)).present = (t.cand k).ref
    ds.length = 8 →
    ((s.cand k).ref = true → est.natAbs ≤ 160 → (s.cand k).good = 7 →
      ∃ t, exec (.refAbsent k) s = .next t ∧ sampled t ∧ (t.cand k).ref = false ∧ (t.cand k).good = 8) ∧
    ((s.cand k).ref = true → est.natAbs ≤ 160 → (s.cand k).good < 7 → exec (.refAbsent k) s = .next s) ∧
    ((s.cand k).ref = false → 160 < est.natAbs →
      ∃ t, exec (.refPresent k) s = .next t ∧ sampled t ∧ (t.cand k).ref = true ∧ (t.cand k).good = 0))

/-- REFERENCE_HOLD_OFF_EXPIRY, REFERENCE_WTR_EXPIRY and STATION_LOS_END at the coming local frame start. The flag
condition of a line port is a set action flag of LOS, LOF, EXC or REF, and its verdict cause a verdict of
MISCONNECTED, LOOPED or PATCHING; that of a station input is a set flag of LOS or REF, and it has no verdict cause.
A flag condition whose count reaches the reference hold-off times 800 fails a candidate in WAIT or AVAILABLE; a WAIT
whose count reaches 60 times the reference WTR at a tick becomes AVAILABLE, where a set flag condition holds the
count at 0, which a WTR of 0 has reached; the eighth local frame in a row of 128 edges or more makes LOS of a
station input absent, which is delivered. The edges are those of the row, and at least those that STATION_PULSE has
counted; they move the divider on (the model's choice, log entry 21). Short of its count each row finds nothing to
do (log entry 3). Each local frame start judges a candidate once: what was judged ahead of LOCAL_FRAME_START is not
judged by it again (log entry 2). -/
def Obligations.CandidatesFailAndReturn : Prop :=
  (∀ (k : Fin 10) (s : State),
    let u := s.openFrame
    let c := u.cand k
    let limit := 800 * u.tmu.settings.holdOff
    let n := c.holdOff.getD 0
    (s.cand k).state = c.state → c.entry.enabled = true → c.state = .wait ∨ c.state = .available →
    u.flagCondition k = true → u.verdictCause k = false → Judgement.cand k ∉ u.moment.done →
    (limit ≤ n + 1 →
      exec (.referenceHoldOffExpiry k) s =
        .next (State.modCand k (s := { u with moment := u.moment.made (.cand k) }) fun c =>
          { c with holdOff := some (if n < limit then n + 1 else n), state := .failed, wtr := none })) ∧
    (n + 1 < limit → exec (.referenceHoldOffExpiry k) s = .next s)) ∧
  (∀ (k : Fin 10) (n : Nat) (s : State),
    let u := s.openFrame
    u.tickDue = true → (s.cand k).state = .wait → (u.cand k).state = .wait → (u.cand k).wtr = some n →
    Judgement.wtr k ∉ u.moment.done →
    let v : State := { u with moment := u.moment.made (.wtr k) }
    (u.flagCondition k = true →
      (u.tmu.settings.wtr = 0 →
        exec (.referenceWtrExpiry k) s =
          .next (v.modCand k fun c => { c with state := .available, wtr := none })) ∧
      (0 < u.tmu.settings.wtr → exec (.referenceWtrExpiry k) s = .next s)) ∧
    (u.flagCondition k = false →
    (60 * u.tmu.settings.wtr ≤ n + 1 →
      exec (.referenceWtrExpiry k) s =
        .next (v.modCand k fun c => { c with state := .available, wtr := none })) ∧
    (n + 1 < 60 * u.tmu.settings.wtr → exec (.referenceWtrExpiry k) s = .next s))) ∧
  (∀ (i : Fin 2) (edges : Nat) (s : State),
    let x := s.tmu.stations[i]
    let n := max edges x.counted
    x.los = true → s.openFrame.moment.done.contains (.station i) = false → 1 < s.openFrame.tmu.frameNo →
    (128 ≤ n → x.run = 7 →
      ∃ t, exec (.stationLosEnd i edges) s = .next t ∧ Agree [.pending, .ports, .ssw, .records, .mci] s t ∧
        t.tmu.stations[i] =
          { los := false, run := 8, divider := (x.divider + (n - x.counted)) % 256, counted := 0 } ∧
        (∀ j, j ≠ i → t.tmu.stations[j] = s.tmu.stations[j]) ∧ (t.alarm (.stationLos i)).present = false) ∧
    (n < 128 ∨ x.run < 7 → exec (.stationLosEnd i edges) s = .next s)) ∧
  (∀ (k : Fin 10) (s : State),
    (Judgement.cand k ∈ s.openFrame.moment.done → exec (.referenceHoldOffExpiry k) s = .next s) ∧
    (Judgement.wtr k ∈ s.openFrame.moment.done → exec (.referenceWtrExpiry k) s = .next s) ∧
    ∀ x : FrameInputs, s.coldRestartDue = false →
      let u := State.reachFrame { s with inputs := { s.inputs with frame := x } }
      ∃ t, exec (.localFrameStart x) s = .next t ∧
        (Judgement.cand k ∈ u.moment.done → (t.cand k).holdOff = (u.cand k).holdOff)) ∧
  (∀ s : State,
    (∀ p : Fin 8,
      (s.flagCondition (portCand p) = true ↔
        ∃ c ∈ [PortKind.los, .lof, .exc, .ref], (s.alarm (.port p c)).flag = true) ∧
      (s.verdictCause (portCand p) = true ↔
        (s.cable p).verdict = .misconnected ∨ (s.cable p).verdict = .looped ∨ (s.cable p).verdict = .patching)) ∧
    (∀ i : Fin 2, ∀ k : Fin 10, k.val = 8 + i.val →
      s.verdictCause k = false ∧
      (s.flagCondition k = true ↔
        (s.alarm (.stationLos i)).flag = true ∨ (s.alarm (.stationRef i)).flag = true)))

/-- The selection at LOCAL_FRAME_START, for a state of the selection's law and a start that is no one-second tick
and no cold restart. A candidate is eligible exactly when it is AVAILABLE, of a rank at or better than the worst
acceptable Q's, and not DO-NOT-USE. The effective Q is the fixed Q, or with a received source the accepted Q,
UNKNOWN while there is none; UNKNOWN ranks as 14 and every other code as itself. In AUTO the selected reference is
the best eligible candidate, by lowest rank, then lowest priority number, then lowest candidate number, or none if
there is none; in FORCED(k) it is k while k is eligible and none otherwise; in FREE and HOLD it is none. Priority,
source and fixed Q act as of this start. With none selected the unit is in HOLDOVER with FW at I, but in FREE-RUN,
with both at 0, in FREE and where AUTO finds it there. Every port is given the output quality: DO-NOT-USE on the
reference's port and on the members of its group, else the reference's effective Q, or 9 in HOLDOVER and 11 in
FREE-RUN. With no restart pending, a changed state or reference has set TIMING and written a REFSEL record of
both. -/
def Obligations.SelectionFollowsTheMode : Prop :=
  ∀ (x : FrameInputs) (s : State), s.SelectionLaw → s.moment.opened = false → s.coldRestartDue = false →
    s.tmu.started = false ∨ s.tmu.frameCount ≠ 7999 →
    let m := s.tmu.settings.mode
    let rank : BitVec 4 → Nat := fun q => if q = 0 then 14 else q.toNat
    ∃ t, exec (.localFrameStart x) s = .next t ∧
      (∀ k, t.effectiveQ k =
        if (t.cand k).inUse.fixedSource = true then (t.cand k).inUse.fixedQ
        else if h : k.val < 8 then (t.tmu.quality[k.val]).accepted.getD 0
        else (t.cand k).inUse.fixedQ) ∧ t.tmu.modeInUse = m ∧ (∀ k, (t.cand k).inUse = (t.cand k).entry) ∧
      (t.tmu.state = .holdover → t.tmu.fw = t.tmu.integral) ∧
      (t.tmu.state = .freeRun → t.tmu.fw = 0 ∧ t.tmu.integral = 0) ∧
      (s.mci.restart = none → t.tmu.state ≠ s.tmu.state ∨ t.tmu.selected ≠ s.tmu.selected →
        t.queue.news.timing = true ∧ Reported (.refsel t.tmu.state t.tmu.selected) s t) ∧
      (∀ k, (t.cand k).eligible = true ↔
        ((t.cand k).state = .available ∧ rank (t.effectiveQ k) ≤ rank t.tmu.settings.worstQ ∧ t.effectiveQ k ≠ 15)) ∧
      (∀ k, t.tmu.selected = some k → (t.cand k).eligible = true ∧
        (t.tmu.state = .acquire ∨ t.tmu.state = .locked) ∧
        (s.tmu.selected ≠ some k →
          t.tmu.state = .acquire ∧ t.tmu.anchor = none ∧ t.tmu.fw = t.tmu.integral ∧ t.tmu.lockCount = 0)) ∧
      (m = .auto →
        (∀ k, t.tmu.selected = some k → ∀ j, (t.cand j).eligible = true → j ≠ k →
          rank (t.effectiveQ k) < rank (t.effectiveQ j) ∨
            (rank (t.effectiveQ k) = rank (t.effectiveQ j) ∧
              ((t.cand k).inUse.priority < (t.cand j).inUse.priority ∨
                ((t.cand k).inUse.priority = (t.cand j).inUse.priority ∧ k < j)))) ∧
        (t.tmu.selected = none →
          (∀ k, (t.cand k).eligible = false) ∧
          t.tmu.state = (if s.tmu.state = .freeRun then .freeRun else .holdover))) ∧
      (∀ k, m = .forced k →
        t.tmu.selected = (if (t.cand k).eligible then some k else none) ∧
        ((t.cand k).eligible = false → t.tmu.state = .holdover)) ∧
      (m = .free → t.tmu.selected = none ∧ t.tmu.state = .freeRun ∧ t.tmu.fw = 0 ∧ t.tmu.integral = 0) ∧
      (m = .hold → t.tmu.selected = none ∧ t.tmu.state = .holdover) ∧
      (∀ p : Fin 8, t.sharesReference p = true ↔
        ∃ r : Fin 8, t.tmu.selected = some (portCand r) ∧
          ((t.membership r = none ∧ r = p) ∨ ∃ m, t.membership r = some m ∧ (t.group m.1).hasMember p = true)) ∧
      (∀ p : Fin 8, t.tmu.outQ[p] =
        if t.sharesReference p then 15
        else if t.tmu.state = .holdover then 9
        else if t.tmu.state = .freeRun then 11
        else (t.tmu.selected.map t.effectiveQ).getD 11)

/-! ## Settings written over the management channel -/

/-- WRITE_PORT, WRITE_TIMING and WRITE_REFERENCE of one entry, where a reply can be queued: a control byte, mode or
flag that the rules refuse is answered BAD-VALUE with the entry's index and changes nothing but the reply; another
entry is stored with its numbers taken into their ranges, and answered DONE, or DONE-CLAMPED where one was changed.
The transmit-disable output follows the port's setting at once, and stays asserted under a dark patch window. A
candidate written enabled begins in WAIT (AVAILABLE with a WTR of 0, FAILED with a verdict cause), its monitoring
cleared, the last R with it (log entry 19); one written disabled is DISABLED with no REF, and in a state of the
selection's law, if it was AVAILABLE, it is not the selected reference. -/
def Obligations.SettingsWrites : Prop :=
  ∀ (tag : Byte) (s : State), s.canTake = true →
    let take : Nat → Nat → Nat → Nat := fun n low high => max low (min high n)
    let wrong : Nat → Answer := fun i => { Answer.plain .badValue with data := refusedIndex (some i) }
    let stored : Bool → Answer := fun clamped =>
      { Answer.plain (if clamped then .clamped else .done) with data := refusedIndex none }
    (∀ (p : Fin 8) (a b c d m ctl : Byte),
      let xt := a.toNat * 256 + b.toNat
      let dt := c.toNat * 256 + d.toNat
      let y : PortSettings :=
        { xt := take xt 1 8000, dt := take dt 1 8000, dm := take m.toNat 2 10,
          loopback := if ctl.toNat % 4 = 1 then .facility else if ctl.toNat % 4 = 2 then .terminal else .normal,
          txEnabled := decide (4 ≤ ctl.toNat) }
      (8 ≤ ctl.toNat ∨ ctl.toNat % 4 = 3 →
        exec (.writePort tag (BitVec.ofNat 8 p.val) [a, b, c, d, m, ctl]) s = .next (s.answered tag 2 (wrong p.val))) ∧
      (ctl.toNat < 8 → ctl.toNat % 4 ≠ 3 →
        exec (.writePort tag (BitVec.ofNat 8 p.val) [a, b, c, d, m, ctl]) s =
          .next ((s.modPort p fun z => { z with settings := y }).answered tag 2
            (stored (y.xt != xt || y.dt != dt || y.dm != m.toNat))) ∧
        ∃ t, exec (.writePort tag (BitVec.ofNat 8 p.val) [a, b, c, d, m, ctl]) s = .next t ∧
          t.txDisable p = (decide (ctl.toNat < 4) || ((s.cable p).window.isSome && (s.cable p).record.dark)) ∧
          ∀ q, q ≠ p → t.txDisable q = s.txDisable q)) ∧
    (∀ (kp ki th tl q mode k ho wtr : Byte),
      let e : List Byte := [kp, ki, th, tl, q, mode, k, ho, wtr]
      let y : TimingMode → TimingSettings := fun x =>
        { kp := take kp.toNat 0 15, ki := take ki.toNat 0 15, threshold := take (th.toNat * 256 + tl.toNat) 1 65535,
          worstQ := BitVec.ofNat 4 (take q.toNat 0 15), mode := x, holdOff := take ho.toNat 0 20,
          wtr := take wtr.toNat 0 12 }
      let clamped : Bool := decide (15 < kp.toNat ∨ 15 < ki.toNat ∨ (th = 0 ∧ tl = 0) ∨ 15 < q.toNat ∨ 20 < ho.toNat ∨
        12 < wtr.toNat)
      let ok : TimingMode → Prop := fun x =>
        exec (.writeTiming tag 0 e) s =
          .next (State.answered tag 2 (stored clamped) { s with tmu := { s.tmu with settings := y x } })
      (mode = 0 → ok .auto) ∧ (∀ j : Fin 10, mode = 1 → k.toNat = j.val → ok (.forced j)) ∧ (mode = 2 → ok .free) ∧
      (mode = 3 → ok .hold) ∧
      (3 < mode.toNat ∨ (mode = 1 ∧ 9 < k.toNat) →
        exec (.writeTiming tag 0 e) s = .next (s.answered tag 2 (wrong 0)))) ∧
    (∀ (k : Fin 10) (en pr src q : Byte),
      let i : Byte := BitVec.ofNat 8 k.val
      let y : RefEntry :=
        { enabled := en == 1, priority := take pr.toNat 1 10, fixedSource := decide (8 ≤ k.val) || src == 1,
          fixedQ := BitVec.ofNat 4 (take q.toNat 0 15) }
      let clamped : Bool := decide (pr = 0 ∨ 10 < pr.toNat ∨ 15 < q.toNat ∨ (8 ≤ k.val ∧ src = 0))
      let was := (s.cand k).entry.enabled
      (1 < en.toNat ∨ 1 < src.toNat →
        exec (.writeReference tag i [en, pr, src, q]) s = .next (s.answered tag 2 (wrong k.val))) ∧
      (en.toNat ≤ 1 → src.toNat ≤ 1 → y.enabled = was →
        exec (.writeReference tag i [en, pr, src, q]) s =
          .next ((s.modCand k fun c => { c with entry := y }).answered tag 2 (stored clamped))) ∧
      (en = 1 → src.toNat ≤ 1 → was = false →
        exec (.writeReference tag i [en, pr, src, q]) s =
          .next ((s.modCand k fun c =>
            { c with
              entry := y, previousR := none, drifts := [], lastR := none, missing := 0, good := 0, ref := false,
              claim := false, holdOff := some 0,
              state := if s.verdictCause k then .failed else if s.tmu.settings.wtr = 0 then .available else .wait,
              wtr := if s.verdictCause k = false ∧ s.tmu.settings.wtr ≠ 0 then some 0 else none }).answered tag 2
            (stored clamped))) ∧
      (en = 0 → src.toNat ≤ 1 → was = true →
        ∃ t, exec (.writeReference tag i [en, pr, src, q]) s = .next t ∧
          Agree [.pending, .inputs, .moment, .ports, .ssw, .records, .csv] s t ∧
          (t.cand k).entry = y ∧ (t.cand k).state = .disabled ∧ (t.cand k).holdOff = none ∧ (t.cand k).wtr = none ∧
          (t.cand k).drifts = [] ∧ (t.cand k).previousR = none ∧ (t.cand k).missing = 0 ∧ (t.cand k).good = 0 ∧
          (t.cand k).ref = false ∧ (t.cand k).eligible = false ∧ (∀ j, j ≠ k → t.cand j = s.cand j) ∧
          (t.alarm (refAlarm k)).present = false ∧
          (s.SelectionLaw → (s.cand k).state = .available → t.tmu.selected ≠ some k) ∧
          t.mci.replies.length = s.mci.replies.length + 1))

/-- WRITE_PROFILE and WRITE_ASSIGN of one entry, where a reply can be queued: a mode and severity byte above 15, or
a profile number above 3, is refused with BAD-VALUE; another is stored, and every cell whose entry it changes is
re-evaluated: presence stays; a changed mode sets the flag to the presence in AUTO and LATCH and clears it in REPORT
and OFF; a cell taken out of OFF begins its raise soak if present; one taken to OFF, and a LATCHED one taken out of
LATCH, is IDLE. CRIT, MAJ and MIN follow. AUD stays, unless the CLEARED records of the write are the first to be
lost: that makes QOVF present, and a QOVF that was CLEARING or LATCHED enters ACTIVE and energizes AUD where its
severity is CRIT or MAJ. -/
def Obligations.ProfileAndAssignWrites : Prop :=
  ∀ (tag n : Byte) (s : State), s.canTake = true →
    let wrong : Nat → Answer := fun i => { Answer.plain .badValue with data := refusedIndex (some i) }
    let changed : State → Prop := fun t =>
      Agree [.pending, .inputs, .moment, .ports, .ssw, .records, .imu, .csv, .tmu] s t ∧
        t.alu.patched = s.alu.patched ∧ t.RelayLaw ∧ t.mci.replies.length = s.mci.replies.length + 1 ∧
        let firstLost : Prop := s.queue.lost = 0 ∧ 0 < t.queue.lost
        (¬firstLost → t.alu.relays.aud = s.alu.relays.aud) ∧
        (s.alu.relays.aud = true → t.alu.relays.aud = true) ∧
        (firstLost → (s.alarm .qovf).present = false → (s.entryOf .qovf).mode = (t.entryOf .qovf).mode →
          let enters : Prop := (t.entryOf .qovf).mode ≠ .off ∧
            ((s.alarm .qovf).state = .clearing ∨ (s.alarm .qovf).state = .latched)
          (t.alarm .qovf).present = true ∧ (enters → (t.alarm .qovf).state = .active) ∧
          t.alu.relays.aud =
            (if enters ∧ ((t.entryOf .qovf).severity = .crit ∨ (t.entryOf .qovf).severity = .maj) then true
             else s.alu.relays.aud)) ∧
        ∀ a, (a = .qovf → ¬firstLost) →
          let old := s.entryOf a
          let new := t.entryOf a
          (t.alarm a).present = (s.alarm a).present ∧
          (old.mode = new.mode → t.alarm a = s.alarm a) ∧
          (old.mode ≠ new.mode →
            (t.alarm a).flag = ((new.mode == .auto || new.mode == .latch) && (s.alarm a).present) ∧
            (new.mode = .off → (t.alarm a).state = .idle ∧ (t.alarm a).soak = none ∧ (t.alarm a).held = none) ∧
            (old.mode = .off → (s.alarm a).present = true →
              (t.alarm a).state = .raising ∧ (t.alarm a).soak = some 0) ∧
            (old.mode = .latch → (s.alarm a).state = .latched →
              (t.alarm a).state = .idle ∧ (t.alarm a).held = none))
    (∀ i : Fin 72,
      (16 ≤ n.toNat →
        exec (.writeProfile tag (BitVec.ofNat 8 i.val) [n]) s = .next (s.answered tag 2 (wrong i.val))) ∧
      (n.toNat < 16 →
        ∃ t, exec (.writeProfile tag (BitVec.ofNat 8 i.val) [n]) s = .next t ∧ changed t ∧
          t.alu.assigned = s.alu.assigned ∧
          (t.alu.profiles[i]).mode.code + 4 * (t.alu.profiles[i]).severity.code = n.toNat ∧
          ∀ j : Fin 72, j ≠ i → t.alu.profiles[j] = s.alu.profiles[j])) ∧
    (∀ i : Fin 19,
      (4 ≤ n.toNat →
        exec (.writeAssign tag (BitVec.ofNat 8 i.val) [n]) s = .next (s.answered tag 2 (wrong i.val))) ∧
      (n.toNat < 4 →
        ∃ t, exec (.writeAssign tag (BitVec.ofNat 8 i.val) [n]) s = .next t ∧ changed t ∧
          t.alu.profiles = s.alu.profiles ∧ (t.alu.assigned[i]).val = n.toNat ∧
          ∀ j : Fin 19, j ≠ i → t.alu.assigned[j] = s.alu.assigned[j]))

/-- WRITE_GROUP of one record and WRITE_UNIT, where a reply can be queued. A record that names no port, the same
port twice, a protection port alone, a reserved bit or a port of another group is refused with BAD-VALUE; an
unchanged one is answered; a change is refused with BAD-STATE while the group is mapped and would become undefined,
holds an operator or patch request, runs its confirm timer, or a window is open on a port it has or would have;
otherwise the record is stored and the group's dynamic state reset, the bridge set for PAIR but not in an
unprotected group (the model's choice, log entry 37), or, for the management group, kept until its reply has been
sent. The record is read from the bytes: working and protection port, bits 0 to 3 of byte 2 SPARE, BOTH-ENDS (SPARE
forces it), revertive and degrade switching, a hold-off of at most 100 and a WTR within 1 to 120; a field changed so
gives DONE-CLAMPED. A management group number is kept likewise; one above 7 is refused with BAD-VALUE and an
undefined group with BAD-STATE, but the number in use is answered DONE also where its group is undefined (the
model's choice, log entry 42). While a change is pending WRITE GROUP, WRITE UNIT, WRITE MAP, every REQUEST and PATCH
are refused with BAD-STATE. -/
def Obligations.GroupAndUnitWrites : Prop :=
  ∀ (tag : Byte) (s : State), s.canTake = true →
    let say : Result → Option Nat → Answer := fun r i => { Answer.plain r with data := refusedIndex i }
    (∀ (g : Fin 8) (b0 b1 b2 b3 b4 : Byte), s.changePending = false →
      let e : List Byte := [b0, b1, b2, b3, b4]
      let i : Byte := BitVec.ofNat 8 g.val
      let r := groupRecordOf e
      let x := s.group g
      let names : Fin 8 → Prop := fun p => r.working = some p ∨ r.protection = some p
      let bad : Prop := (8 ≤ b0.toNat ∧ b0.toNat ≠ 255) ∨ (8 ≤ b1.toNat ∧ b1.toNat ≠ 255) ∨ 16 ≤ b2.toNat ∨
        (r.working.isSome = true ∧ r.working = r.protection) ∨ (r.working = none ∧ r.protection.isSome = true) ∨
        ∃ h, h ≠ g ∧ ∃ p, names p ∧ (s.group h).hasMember p = true
      let busy : Prop := (x.defined = true ∧ r.working = none ∧ ∃ n k, s.ssw.storedMap[(n : Fin 256)] = .mapped g k) ∨
        x.operator ≠ .none ∨ x.markW = true ∨ x.markP = true ∨ x.confirm.isSome = true ∨
        ∃ p, (x.hasMember p = true ∨ names p) ∧ (s.cable p).window.isSome = true
      let reply : Answer := say (if groupClamped e then .clamped else .done) none
      ((∀ p : Fin 8, (r.working = some p ↔ b0.toNat = p.val) ∧ (r.protection = some p ↔ b1.toNat = p.val)) ∧
        r.arch = (if b2.toNat % 2 = 1 then .spare else .pair) ∧
        r.direction = (if b2.toNat % 4 = 0 then .oneEnd else .bothEnds) ∧
        r.revertive = decide (b2.toNat / 4 % 2 = 1) ∧ r.degrade = decide (b2.toNat / 8 % 2 = 1) ∧
        r.holdOff = min 100 b3.toNat ∧ r.wtr = max 1 (min 120 b4.toNat) ∧
        (groupClamped e = true ↔ 100 < b3.toNat ∨ b4 = 0 ∨ 120 < b4.toNat ∨ b2.toNat % 4 = 1)) ∧
      (bad → exec (.writeGroup tag i e) s = .next (s.answered tag 2 (say .badValue (some g.val)))) ∧
      (¬bad → r = x.record → exec (.writeGroup tag i e) s = .next (s.answered tag 2 reply)) ∧
      (¬bad → r ≠ x.record → busy → exec (.writeGroup tag i e) s = .next (s.answered tag 2 (say .badState (some g.val)))) ∧
      (¬bad → r ≠ x.record → ¬busy → g = s.mci.group →
        exec (.writeGroup tag i e) s =
          .next (State.answered tag 2 { reply with effect := .deferred }
            { s with mci := { s.mci with pendingRecord := some r } })) ∧
      (¬bad → r ≠ x.record → ¬busy → g ≠ s.mci.group →
        ∃ t, exec (.writeGroup tag i e) s = .next t ∧
          Agree [.pending, .inputs, .moment, .ports, .ssw, .imu, .csv, .tmu] s t ∧ (∀ h, h ≠ g → t.group h = s.group h) ∧
          (t.alarm (.psf g)).present = false ∧ t.mci.replies.length = s.mci.replies.length + 1 ∧
          let y := t.group g
          y.record = r ∧ y.selector = .w ∧ y.bridge = (r.arch == .pair && (r.working.isNone || r.protection.isSome)) ∧ y.operator = .none ∧ y.markW = false ∧
          y.markP = false ∧ y.restore = .none ∧ y.wtrCount = none ∧ y.top = .none ∧ y.accepted = none ∧
          y.candidate = none ∧ y.run = 0 ∧ y.txRequest = 0 ∧ y.txChannel = .w ∧ y.txBridged = (r.arch == .pair) ∧ y.confirm = none ∧ y.psf = none ∧
          y.agreement = 0 ∧ y.protocol = .idle ∧ y.sfW = ⟨0, false⟩ ∧ y.sdW = ⟨0, false⟩ ∧ y.sfP = ⟨0, false⟩ ∧
          y.sdP = ⟨0, false⟩)) ∧
    (∀ n : Byte, s.changePending = false →
      let e : List Byte := n :: List.replicate 23 0
      (8 ≤ n.toNat → exec (.writeUnit tag 0 e) s = .next (s.answered tag 2 (say .badValue (some 0)))) ∧
      (∀ g : Fin 8, n.toNat = g.val →
        (g = s.mci.group → exec (.writeUnit tag 0 e) s = .next (s.answered tag 2 (say .done none))) ∧
        (g ≠ s.mci.group → (s.group g).defined = false →
          exec (.writeUnit tag 0 e) s = .next (s.answered tag 2 (say .badState (some 0)))) ∧
        (g ≠ s.mci.group → (s.group g).defined = true →
          exec (.writeUnit tag 0 e) s =
            .next (State.answered tag 2 { say .done none with effect := .deferred }
              { s with mci := { s.mci with pendingNumber := some g } })))) ∧
    (∀ n g b0 b1 b2 b3 b4 : Byte, s.changePending = true →
      exec (.writeUnit tag 0 (n :: List.replicate 23 0)) s = .next (s.answered tag 2 (say .badState none)) ∧
      exec (.writeGroup tag g [b0, b1, b2, b3, b4]) s = .next (s.answered tag 2 (say .badState none)) ∧
      exec (.writeMap tag g [b0, b1, b2]) s = .next (s.answered tag 2 (say .badState none)) ∧
      (∀ i ∈ [Instr.requestLock tag g, .requestForce tag g, .requestManP tag g, .requestManW tag g,
          .requestClear tag g], exec i s = .next (s.answered tag 3 (.plain .badState))) ∧
      exec (.patchOpen tag g b0 b1) s = .next (s.answered tag 4 (.plain .badState)) ∧
      exec (.patchClose tag g b0 b1) s = .next (s.answered tag 4 (.plain .badState)))

/-- READ, READ_UNIT and WRITE, where a reply can be queued. A READ beyond the last entry is refused with BAD-INDEX;
another returns the count of entries it carries and their bytes, as many as 54 bytes hold and at least one, and is
answered DONE-CLAMPED where that is not the count asked for. A READ of UNIT returns the unit entry and clears the
news. A READ of no object and a WRITE to an object without a write entry are refused with BAD-OBJECT, also where the
object byte has a reserved bit set (the model's choice, log entry 45), a WRITE of no whole entry with BAD-VALUE; a
WRITE of an unequipped map entry stores it, and a WRITE is the write of the object that its object byte names. A
WRITE of several entries is refused with BAD-INDEX where it reaches beyond the last entry, and applies none; else it
applies them in index order, each to the state that the ones before have left, until one is refused, whose result
and index are answered while the ones before stay applied; with none refused it is DONE, or DONE-CLAMPED where one
was clamped. The bytes of every entry of every object are those of 11.5: numbers high byte first in the table's
widths, flags and codes in its bits, absent values all ones or, signed, the most negative value. The 12 bytes of
every record are those of 11.4, with the index of the alarm cell of 8.1 as origin. Where 11.5 leaves a byte open
(the forced k outside FORCED, the fields of an absent trace, audit, slot, round or held severity) it is the model's
choice (log entry 16), and a press count above 255 is a free value (log entry 15). -/
def Obligations.ReadsAndWrites : Prop :=
  ∀ (tag : Byte) (s : State), s.canTake = true →
    (∀ object first count : Byte,
      (objectOf object = none → exec (.read tag object first count) s = .next (s.answered tag 1 (.plain .badObject))) ∧
      ∀ o, objectOf object = some o →
        let n := min (max count.toNat 1) (54 / o.readSize)
        (o.entries ≤ first.toNat ∨ o.entries < first.toNat + count.toNat →
          exec (.read tag object first count) s = .next (s.answered tag 1 (.plain .badIndex))) ∧
        (first.toNat < o.entries → first.toNat + count.toNat ≤ o.entries →
          exec (.read tag object first count) s =
            .next ((if o = .unit then { s with queue := { s.queue with news := News.clear } } else s).answered tag 1
              { Answer.plain (if n = count.toNat then .done else .clamped) with
                data := BitVec.ofNat 8 n :: (List.range n).flatMap fun j => s.entry o (first.toNat + j) }))) ∧
    (∀ first count : Byte, exec (.readUnit tag first count) s = exec (.read tag 10 first count) s) ∧
    exec (.readUnit tag 0 1) s =
      .next (State.answered tag 1 { Answer.plain .done with data := 1#8 :: s.unitEntry }
        { s with queue := { s.queue with news := News.clear } }) ∧
    (∀ (object first : Byte) (entries : List Byte),
      ((objectOf object).bind Object.writeSize = none →
        exec (.write tag object first entries) s =
          .next (s.answered tag 2 { Answer.plain .badObject with data := refusedIndex none })) ∧
      (∀ n, (objectOf object).bind Object.writeSize = some n → entries = [] ∨ entries.length % n ≠ 0 →
        exec (.write tag object first entries) s =
          .next (s.answered tag 2 { Answer.plain .badValue with data := refusedIndex none }))) ∧
    (∀ n : Fin 256, ∀ g k : Byte, s.changePending = false →
      exec (.write tag 2 (BitVec.ofNat 8 n.val) [0, g, k]) s =
        .next (State.answered tag 2 { Answer.plain .done with data := refusedIndex none }
          { s with ssw := { s.ssw with storedMap := s.ssw.storedMap.set n .unequipped } })) ∧
    (∀ (object first : Byte) (o : Object) (n : Nat) (es : List (List Byte)), objectOf object = some o →
      o.writeSize = some n → es ≠ [] → (∀ e ∈ es, e.length = n) → s.changePending = false ∨ o.guarded = false →
      (o.entries < first.toNat + es.length →
        exec (.write tag object first es.flatten) s =
          .next (s.answered tag 2 { Answer.plain .badIndex with data := refusedIndex none })) ∧
      (first.toNat + es.length ≤ o.entries → ∀ (v : Nat → State) (clamped : Nat → Bool) (k : Nat), k ≤ es.length →
        v 0 = s →
        (∀ j (h : j < es.length), j < k →
          (v j).writeEntry o (first.toNat + j) es[j] = .applied (clamped j) (v (j + 1))) →
        let answer : Result → Option Nat → Answer := fun r i =>
          { result := r, data := refusedIndex i,
            effect := if s.changePending = false ∧ (v k).changePending = true then .deferred else .plain }
        (∀ (h : k < es.length) (r : Result), (v k).writeEntry o (first.toNat + k) es[k] = .refused r →
          exec (.write tag object first es.flatten) s =
            .next ((v k).answered tag 2 (answer r (some (first.toNat + k))))) ∧
        (k = es.length →
          exec (.write tag object first es.flatten) s =
            .next ((v k).answered tag 2
              (answer (if (List.range k).any clamped then .clamped else .done) none))))) ∧
    (∀ (first : Byte) (es : List Byte),
      exec (.write tag 0 first es) s = exec (.writePort tag first es) s ∧
      exec (.write tag 1 first es) s = exec (.writeGroup tag first es) s ∧
      exec (.write tag 2 first es) s = exec (.writeMap tag first es) s ∧
      exec (.write tag 3 first es) s = exec (.writeCable tag first es) s ∧
      exec (.write tag 4 first es) s = exec (.writeReference tag first es) s ∧
      exec (.write tag 5 first es) s = exec (.writeTiming tag first es) s ∧
      exec (.write tag 6 first es) s = exec (.writeProfile tag first es) s ∧
      exec (.write tag 7 first es) s = exec (.writeAssign tag first es) s ∧
      exec (.write tag 10 first es) s = exec (.writeUnit tag first es) s) ∧
    let fields : List (Nat × Nat) → List Byte := fun l =>
      l.flatMap fun e => (List.range e.1).map fun j => BitVec.ofNat 8 (e.2 / 256 ^ (e.1 - 1 - j))
    let on : Bool → Nat → Nat := fun b n => if b then 2 ^ n else 0
    let opt : Nat → Option Nat → Nat × Nat := fun n v => (n, v.getD (256 ^ n - 1))
    let signed : Nat → Option Int → Nat × Nat := fun n v =>
      (n, match v with
          | some x => (x % (256 ^ n : Nat)).toNat
          | none => 128 * 256 ^ (n - 1))
    let text : Trace → List Byte := fun c => c.toList.map fun z => z.setWidth 8
    let severity : Severity → Nat := fun v =>
      match v with
      | .crit => 0
      | .maj => 1
      | .min => 2
      | .note => 3
    let record : Record → Nat → Nat → Nat → List Byte := fun r transition origin value =>
      fields [(2, r.sequence), (4, r.seconds), (2, 8192 * transition + r.frame), (1, origin), (3, value)]
    let verdict : Verdict → Nat := fun v =>
      match v with
      | .unverified => 0
      | .traceOk => 1
      | .verified => 2
      | .misconnected => 3
      | .looped => 4
      | .length => 5
      | .patching => 6
    let outcome : AuditResult → Nat := fun a =>
      on a.completed 0 + on a.coarse 1 + on a.assumed 2 + on a.implausible 3 + on a.unstable 4
    let profile : ProfileEntry → Nat := fun e =>
      (match e.mode with
       | .off => 0
       | .report => 1
       | .auto => 2
       | .latch => 3) +
      4 * severity e.severity
    (∀ p : Fin 8, let x := s.port p
      s.entry .port p.val =
        fields [(2, x.settings.xt), (2, x.settings.dt), (1, x.settings.dm),
          (1, (match x.settings.loopback with
               | .normal => 0
               | .facility => 1
               | .terminal => 2) + on x.settings.txEnabled 2),
          (1, (match x.align with
               | .hunt => 0
               | .confirm => 1
               | .sync => 2) + on x.aligned 2 + on x.sd 3 + on (s.txDisable p) 4),
          (1, on x.los 0 + on x.lof 1 + on x.exc 2 + on x.deg 3 + on x.slip 4),
          (2, x.lastSecond), (4, x.total), (2, x.slipCount)]) ∧
    (∀ g : Fin 8, let x := s.group g
      let r := x.record
      let sent : BitVec 4 → Member → Bool → Arch → Direction → Nat := fun q m b a d =>
        16 * q.toNat + on (m == .p) 3 + on b 2 + on (a == .spare) 1 + on (d == .bothEnds) 0
      let signal : Option SwitchSignal → Nat × Nat := fun v =>
        (2, match v with
            | some z => 256 * sent z.request z.channel z.bridged z.arch z.direction + z.group.toNat
            | none => 65535)
      s.entry .group g.val =
        fields [opt 1 (r.working.map Fin.val), opt 1 ((x.portOf .p).map Fin.val),
          (1, on (r.arch == .spare) 0 + on (r.direction == .bothEnds) 1 + on r.revertive 2 + on r.degrade 3),
          (1, r.holdOff), (1, r.wtr),
          (1, on (x.selector == .p) 0 + on x.bridge 1 + on (s.memberSf g .w) 2 + on (s.memberSd g .w) 3 +
            on (s.memberSf g .p) 4 + on (s.memberSd g .p) 5),
          (1, on x.sfW.after 0 + on x.sdW.after 1 + on x.sfP.after 2 + on x.sdP.after 3),
          (1, match x.operator with
              | .none => 0
              | .lock => 15
              | .force => 13
              | .manP => 8
              | .manW => 7),
          (1, on x.markW 0 + on x.markP 1 + 16 * (if x.markP then 15 else if x.markW then 13 else 0)),
          (1, match x.restore with
              | .none => 0
              | .wait => 6
              | .hold => 4),
          opt 2 x.wtrCount, (1, x.top.code.toNat), signal x.accepted, signal x.candidate, (1, x.run),
          (1, sent x.txRequest x.txChannel x.txBridged r.arch r.direction),
          (1, match x.protocol with
              | .idle => 0
              | .switching => 1
              | .steady => 2
              | .fallback => 3),
          opt 2 x.confirm, (1, on x.psf.isSome 0 + on (x.psf == some .mismatch) 1 + on x.unprot 2),
          (2, x.agreement)]) ∧
    (∀ n : Fin 256,
      s.entry .map n.val =
        match s.ssw.storedMap[n] with
        | .unequipped => [0, 0, 0]
        | .mapped g k => fields [(1, 1), (1, g.val), (1, k.val)]) ∧
    (∀ p : Fin 8, let c := s.cable p
      let r := c.record
      s.entry .cable p.val =
        text r.expected ++ text r.transmitted ++
          fields [(1, on r.check 0 + on r.dark 1), (3, r.dmin), (3, r.dmax), signed 2 (some r.ofs), opt 3 r.defaultTa,
            (1, r.burst), (1, r.period), (2, r.spreadLimit)] ∧
      s.entry .cableStatus p.val =
        fields [(1, verdict c.verdict), opt 1 (c.pendingVerdict.map verdict)] ++
          (match c.accepted with
           | some a => text a
           | none => 0xFF#8 :: List.replicate 15 0) ++
          fields [(1, c.traceRun),
            (1, match s.auditState p with
                | .idle => 0
                | .queued =>
                  (match s.queuePlace p with
                   | some e => 1 + on e.2.adHoc 2 + 16 * e.1
                   | none => 1)
                | .active => 2
                | .suspended => 3),
            (1, c.failures)] ++
          (match c.lastResult with
           | some a => fields [(1, outcome a), (1, 16 * a.present + a.burst), opt 3 a.delay, opt 3 a.spread]
           | none => List.replicate 8 0xFF) ++
          fields [opt 2 (c.timer.map PeriodicTimer.count), opt 2 (c.timer.map PeriodicTimer.target),
            opt 2 (c.window.map PatchWindow.remaining),
            (1, on (c.window.any PatchWindow.override) 0 + on c.pendingEcho.isSome 1)] ∧
      s.entry .cableCapture p.val =
        fields [(1, c.captures.length)] ++ c.captures.flatten ++
          List.replicate (48 - c.captures.flatten.length) 0) ∧
    (∀ k : Fin 10, let c := s.cand k
      s.entry .reference k.val =
        fields [(1, on c.entry.enabled 0), (1, c.entry.priority), (1, on c.entry.fixedSource 0),
          (1, c.entry.fixedQ.toNat),
          (1, (match c.state with
               | .disabled => 0
               | .failed => 1
               | .wait => 2
               | .available => 3) + on (c.entry.enabled && s.verdictCause k) 4 + on c.eligible 5 +
            on (s.tmu.selected == some k) 6),
          opt 2 c.holdOff, opt 2 c.wtr,
          opt 1 (if h : k.val < 8 then (s.tmu.quality[k.val]).accepted.map BitVec.toNat else none),
          (1, (s.effectiveQ k).toNat), opt 3 (c.lastR.map fun z => z.1.toNat + on z.2 23), (1, c.drifts.length),
          signed 3 (if c.drifts.length = 8 then some (c.drifts.sum.tdiv 8) else none), (1, 16 * c.missing + c.good),
          (1, on c.ref 0 +
            on ((k == 8 && (s.tmu.stations[(0 : Fin 2)]).los) || (k == 9 && (s.tmu.stations[(1 : Fin 2)]).los)) 1)]) ∧
    (let y := s.tmu
     let x := y.settings
     s.entry .timing 0 =
       fields [(1, x.kp), (1, x.ki), (2, x.threshold), (1, x.worstQ.toNat),
         (1, match x.mode with
             | .auto => 0
             | .forced _ => 1
             | .free => 2
             | .hold => 3),
         (1, match x.mode with
             | .auto => 255
             | .forced k => k.val
             | .free => 255
             | .hold => 255),
         (1, x.holdOff), (1, x.wtr),
         (1, match y.state with
             | .freeRun => 0
             | .acquire => 1
             | .locked => 2
             | .holdover => 3),
         opt 1 (y.selected.map Fin.val), opt 3 (y.anchor.map Int.toNat), signed 3 y.lastError,
         signed 2 (some y.integral), signed 2 (some y.fw), (2, y.acc.toNat), (1, y.lockCount), (1, y.unlockCount),
         (2, y.frameCount), (1, s.index.toNat), (4, y.seconds)]) ∧
    (∀ i : Fin 72, s.entry .profile i.val = fields [(1, profile s.alu.profiles[i])]) ∧
    (∀ i : Fin 19, s.entry .assign i.val = fields [(1, (s.alu.assigned[i]).val)]) ∧
    (∀ n : Fin 106, let a := alarmOf n
      let x := s.alarm a
      s.entry .alarm n.val =
        fields [(1, on x.present 0 + on x.flag 1 +
            4 * (match x.state with
              | .idle => 0
              | .raising => 1
              | .active => 2
              | .clearing => 3
              | .latched => 4)),
          opt 2 x.soak, (1, if s.sourcePatched a.source then 4 else (s.alu.assigned[a.source]).val),
          (1, profile (s.entryOf a) +
            (match x.held with
             | some .crit => 64
             | some .maj => 80
             | some .min => 96
             | some .note => 112
             | none => 0)),
          opt 3 x.value]) ∧
    (let r := s.alu.relays
     s.alu.pressCount ≤ 255 →
       s.entry .alarm 106 =
         fields [(1, on r.crit 0 + on r.maj 1 + on r.min 2 + on r.aud 3 + on s.inputs.frame.aco 4),
           (1, s.alu.pressCount), (6, 0)]) ∧
    s.entry .measurement 0 =
      (match s.imu.lastAudit with
       | none => List.replicate 10 0xFF ++ fields [signed 2 none] ++ List.replicate 5 0xFF
       | some (b, a) =>
         fields [(1, outcome a), (1, b.port.val), (1, a.burst), (1, a.present), opt 3 a.delay, opt 3 a.spread,
           signed 2 (some b.ofs), opt 3 b.defaultTa, (2, b.spreadLimit)]) ∧
    (∀ n : Fin 8,
      s.entry .measurement (n.val + 1) =
        match s.imu.lastAudit.bind fun e => e.1.slots[n.val]? with
        | some (.present d) =>
          fields [(1, 2 + on d.coarse 2 + on d.assumed 3 + on d.implausible 4), signed 3 (some d.rt),
            signed 3 (some d.ta), (3, d.delay), (7, 0)]
        | some .missing => fields [(1, 1), opt 9 none, (7, 0)]
        | some .pending => fields [(1, 0), opt 9 none, (7, 0)]
        | some (.outstanding _ _ _) => fields [(1, 0), opt 9 none, (7, 0)]
        | none => fields [(1, 0), opt 9 none, (7, 0)]) ∧
    (∀ v : Fin 4, let x := s.vernier v
      s.entry .measurement (v.val + 9) =
        fields [(1, (match x.state with
                     | .free => 0
                     | .busy _ => 1
                     | .calibrating => 2
                     | .calFault => 3) + on x.faulted 4), opt 1 x.cal, opt 1 x.lastResult, (14, 0)]) ∧
    s.entry .measurement 13 =
      fields [(3, s.timeCounter.toNat), (3, s.frameMark.toNat), (3, s.multiframeMark.toNat),
        (1, (match s.imu.round with
             | some r => 1 + 2 * r.turn.val
             | none => 0) + on s.imu.roundPending 3),
        (2, s.imu.coarseCount), (1, on s.imu.calDefect 0 + on s.reserved 1), (4, 0)] ∧
    (let m := s.mci
     let n := s.queue.news
     s.entry .unit 0 =
       fields [(1, m.group.val), opt 1 (m.pendingNumber.map Fin.val), (1, on m.pendingRecord.isSome 0),
         (1, m.straps.station.toNat), (1, m.straps.mg.toNat + on m.straps.defmap 2), opt 1 (m.source.map Fin.val),
         (2, 0), (1, m.replies.length + 1), (2, m.badCrc), (2, m.dropped), (2, m.foreign), opt 1 m.mstn,
         (1, on m.mstn.isSome 0 + on m.mlost 1 + on s.qovf 2),
         (1, on n.newRecord 0 + on n.traffic 1 + on n.timing 2 + on n.measure 3 + on n.fault 4),
         (1, s.queue.records.length), (2, s.queue.sequence), (2, s.queue.lost), (1, 0)]) ∧
    (∀ a : AlarmId, alarmOf a.index = a ∧ a.index.val =
      match a with
      | .port p k =>
        10 * p.val +
          (match k with
           | .los => 0
           | .lof => 1
           | .exc => 2
           | .tim => 3
           | .loop => 4
           | .deg => 5
           | .len => 6
           | .slip => 7
           | .aud => 8
           | .ref => 9)
      | .psf g => 80 + 2 * g.val
      | .unprot g => 81 + 2 * g.val
      | .stationLos i => 96 + 2 * i.val
      | .stationRef i => 97 + 2 * i.val
      | .hold => 100
      | .free => 101
      | .cal => 102
      | .qovf => 103
      | .mstn => 104
      | .mlost => 105) ∧
    (∀ r : Record, r.bytes =
      match r.report with
      | .alarm a change v value =>
        record r
          (match change with
           | .raised => 0
           | .cleared => 1
           | .held => 2
           | .released => 3) a.index.val
          (4194304 * severity v +
            (match value with
             | some n => n % 4194304
             | none => 0x3FFFFF))
      | .switch g m code far => record r 4 (106 + g.val) (code.toNat + on (m == .p) 4 + on far 5)
      | .refsel state k =>
        record r 4 114
          ((match state with
            | .freeRun => 0
            | .acquire => 1
            | .locked => 2
            | .holdover => 3) +
            16 * (match k with
              | some k => k.val
              | none => 15))
      | .audit p a =>
        record r 4 (115 + p.val)
          (match a.delay with
           | some d => d % 1048576 + on a.coarse 20 + on a.assumed 21 + on a.implausible 22 + on a.unstable 23
           | none => 0xFFFFFF)
      | .patch p cause =>
        record r 4 (123 + p.val)
          (match cause with
           | .opened => 0
           | .openOverride => 1
           | .closed => 2
           | .expired => 3)
      | .restart kind =>
        record r 4 131
          (match kind with
           | .cold => 0
           | .warm => 1)
      | .lost n => record r 4 132 n)

/-! ## Sections 8 and 9: alarms and records -/

/-- RAISE_SOAK_END and CLEAR_SOAK_END. The 20,000th local frame start in RAISING takes an alarm cell to ACTIVE with
its soak count idle, writes RAISED behind the queued records, and energizes AUD for a CRIT or MAJ cell; the tenth
tick in CLEARING takes it to LATCHED with HELD and its severity held, in mode LATCH with its flag set, and else to
IDLE with CLEARED. Presence and flag stay. A shorter soak does not end (log entry 3). -/
def Obligations.AlarmSoaksEnd : Prop :=
  ∀ (a : AlarmId) (s : State),
    let u := s.openFrame
    let x := u.alarm a
    let e := u.entryOf a
    let recorded : Transition → State → Prop := fun c t =>
      t.queue.records = u.queue.records ++
        [{ sequence := u.queue.sequence, seconds := u.tmu.seconds, frame := u.tmu.frameCount,
           report := .alarm a c e.severity x.value }] ∧
      t.queue.sequence = (u.queue.sequence + 1) % 65536 ∧ t.queue.news.newRecord = true ∧ t.queue.lost = u.queue.lost
    let frame : State → Prop := fun t =>
      Agree [.pending, .inputs, .moment, .ports, .ssw, .groups, .imu, .csv, .tmu, .mci] u t ∧
        (∀ b, b ≠ a → t.alarm b = u.alarm b) ∧ t.RelayLaw ∧ t.alu.profiles = u.alu.profiles
    u.queue.records.length < 64 →
    (∀ n, (s.alarm a).state = .raising → x.state = .raising → x.soak = some n →
      (19999 ≤ n →
        ∃ t, exec (.raiseSoakEnd a) s = .next t ∧ frame t ∧ recorded .raised t ∧
          t.alarm a = { x with state := .active, soak := none } ∧
          t.alu.relays.aud = (u.alu.relays.aud || e.severity == .crit || e.severity == .maj)) ∧
      (n < 19999 → exec (.raiseSoakEnd a) s = .next s)) ∧
    (∀ n, (s.alarm a).state = .clearing → x.state = .clearing → x.soak = some n → u.tickDue = true →
      (9 ≤ n → e.mode = .latch → x.flag = true →
        ∃ t, exec (.clearSoakEnd a) s = .next t ∧ frame t ∧ recorded .held t ∧
          t.alarm a = { x with state := .latched, soak := none, held := some e.severity } ∧
          t.alu.relays.aud = u.alu.relays.aud) ∧
      (9 ≤ n → e.mode ≠ .latch ∨ x.flag = false →
        ∃ t, exec (.clearSoakEnd a) s = .next t ∧ frame t ∧ recorded .cleared t ∧
          t.alarm a = { x with state := .idle, soak := none, held := none } ∧
          t.alu.relays.aud = u.alu.relays.aud) ∧
      (n < 9 → exec (.clearSoakEnd a) s = .next s))

/-- CLEAR, ACO and ACO_PRESS. A CLEAR of one cell, of a source or of all, where a reply can be queued: a covered
cell that is absent and LATCHED is IDLE with its flag cleared, one that is absent in mode LATCH with its flag set
has the flag cleared, and every other cell stays, each judged before the suspensions end (the model's choice, log
entry 40), but for two: the AUD of a port whose suspension ends is delivered absent, and QOVF where the records that
CLEAR writes are the first to be lost, which makes it present. The suspension of every port whose AUD is covered
ends and its failure count is 0; with CAL covered a calibration round runs or is pending. A source above 18 is
refused with BAD-INDEX, whatever the kind code (the model's choice, log entry 45), and a kind that the source does
not carry with BAD-VALUE. ACO de-energizes AUD and is answered DONE; the eighth local frame start in a row that
finds the ACO input pressed does the same, once for a press, and no relay but AUD changes (without a press due the
row finds nothing to do, log entry 3). -/
def Obligations.ClearAndCutOff : Prop :=
  (∀ (tag source kind : Byte) (s : State), s.canTake = true →
    let covered : AlarmId → Prop := fun a =>
      source = 255 ∨ (source.toNat = a.source.val ∧ (kind = 255 ∨ kind.toNat = a.kind.val))
    (19 ≤ source.toNat → source ≠ 255 →
      exec (.clear tag source kind) s = .next (s.answered tag 7 (.plain .badIndex))) ∧
    (source.toNat < 19 → (∀ a, ¬covered a) →
      exec (.clear tag source kind) s = .next (s.answered tag 7 (.plain .badValue))) ∧
    (∀ b, covered b →
      ∃ t, exec (.clear tag source kind) s = .next t ∧
        Agree [.pending, .inputs, .moment, .ports, .ssw, .groups, .tmu] s t ∧
        t.mci.replies.length = s.mci.replies.length + 1 ∧
        (∀ a, (a = .qovf → t.queue.lost = s.queue.lost) →
          (∀ p, a = .port p .aud → covered a → (s.cable p).suspended = true → (s.alarm a).present = false) →
          let x := s.alarm a
          t.alarm a =
            if covered a ∧ x.present = false ∧ x.state = .latched then
              { x with state := .idle, held := none, flag := false }
            else if covered a ∧ x.present = false ∧ (s.entryOf a).mode = .latch then { x with flag := false }
            else x) ∧
        (∀ p : Fin 8,
          (covered (.port p .aud) → (t.cable p).suspended = false ∧ (t.cable p).failures = 0 ∧
            ((s.cable p).suspended = true →
              ((s.alarm (.port p .aud)).present = true → Delivered (.port p .aud) false s t) ∧
              (t.alarm (.port p .aud)).present = false ∧
              (s.csv.audits.any (fun e => e.port == p) = true ∨ s.auditActive p = true ∨
                t.csv.audits.any (fun e => e.port == p) = true))) ∧
          (¬covered (.port p .aud) → t.cable p = s.cable p)) ∧
        (s.queue.lost = 0 → 0 < t.queue.lost → (t.alarm .qovf).present = true) ∧
        (covered .cal → t.imu.round.isSome = true ∧ (s.imu.round.isSome = true → t.imu.roundPending = true)) ∧
        (¬covered .cal → t.imu = s.imu))) ∧
  (∀ (tag : Byte) (s : State), s.canTake = true →
    exec (.aco tag) s =
      .next (State.answered tag 8 (.plain .done)
        { s with alu := { s.alu with relays := { s.alu.relays with aud := false } } })) ∧
  (∀ s : State, Judgement.press ∉ s.openFrame.moment.done → s.alu.pressArmed = true →
    (s.alu.pressCount = 7 →
      ∃ t, exec .acoPress s = .next t ∧ Agree [.pending, .ports, .ssw, .records, .mci] s t ∧
        t.alu.relays.aud = false ∧ t.alu.pressCount = 8 ∧ t.alu.pressArmed = false ∧
        t.alu.relays.crit = s.openFrame.alu.relays.crit ∧ t.alu.relays.maj = s.openFrame.alu.relays.maj ∧
        t.alu.relays.min = s.openFrame.alu.relays.min ∧ t.alu.alarms = s.openFrame.alu.alarms) ∧
    (s.alu.pressCount ≠ 7 → exec .acoPress s = .next s)) ∧
  (∀ s : State, s.alu.pressArmed = false → exec .acoPress s = .next s)

/-- FETCH, where a reply can be queued: the oldest records, up to n taken into 1 to 4, leave the queue and stand in
the reply with the count of those still held; with records lost, a LOST record takes the next sequence number behind
the others, the lost count returns to 0 and QOVF is absent. The news stays, but for the record that LOST adds. A
discarded FETCH removes nothing. -/
def Obligations.FetchRemovesTheOldest : Prop :=
  ∀ (tag n : Byte) (s : State), s.canTake = true → s.queue.records.length ≤ 64 →
    let m := if n.toNat < 1 then 1 else if 4 < n.toNat then 4 else n.toNat
    let taken := s.queue.records.take m
    let rest := s.queue.records.drop m
    let reply : Nat → Answer := fun held =>
      { Answer.plain (if m = n.toNat then .done else .clamped) with
        data := BitVec.ofNat 8 held :: taken.flatMap Record.bytes }
    (s.queue.lost = 0 ∨ taken = [] →
      exec (.fetch tag n) s =
        .next (State.answered tag 6 (reply rest.length) { s with queue := { s.queue with records := rest } })) ∧
    (0 < s.queue.lost → taken ≠ [] →
      ∃ t, exec (.fetch tag n) s = .next t ∧
        Agree [.pending, .inputs, .moment, .ports, .ssw, .groups, .imu, .csv, .tmu] s t ∧
        t.queue.records = rest ++
          [{ sequence := s.queue.sequence, seconds := s.tmu.seconds, frame := s.tmu.frameCount,
             report := .lost s.queue.lost }] ∧
        t.queue.sequence = (s.queue.sequence + 1) % 65536 ∧ t.queue.lost = 0 ∧
        t.queue.news = { s.queue.news with newRecord := true } ∧ (t.alarm .qovf).present = false ∧
        (∀ a, a ≠ .qovf → t.alarm a = s.alarm a) ∧
        t.mci.replies = s.mci.replies ++ [t.replyOf tag 6 (reply (rest.length + 1))]) ∧
    (∀ v : State, v.canTake = false → ∃ t, exec (.fetch tag n) v = .next t ∧ t.queue = v.queue)

/-! ## Section 10: management channel -/

/-- COMMAND_MESSAGE of a whole message in HUNT: with a matching CRC and a station byte that addresses the part the
command is taken as the command rows take it; with another station byte it is foreign: FOREIGN rises, the MSTN timer
is 10 and MSTN present; with a differing CRC BADCRC rises and nothing else changes. Other bytes leave HUNT as it is;
a length byte outside 3 to 60 raises BADCRC. MSTN_TIMER_EXPIRY: at the tick that takes the timer to 0 MSTN is
absent; a longer one does not expire (log entry 3). While the reply queue holds two replies or a restart is pending,
every command that would be answered is discarded: DROPPED rises and nothing else changes. -/
def Obligations.CommandMessages : Prop :=
  (∀ (station tag code high low : Byte) (args : List Byte) (s : State), s.mci.rx = .hunt → args.length ≤ 57 →
    let body := station :: tag :: code :: args
    let length : Byte := BitVec.ofNat 8 body.length
    let c := crc (length :: body)
    let i := Instr.commandMessage (0xA5#8 :: length :: body ++ [high, low])
    let mine : Prop := station.toNat = s.mci.straps.station.toNat ∨ station = 255
    (c = high ++ low → mine → exec i s = .next (s.takeCommand tag code args) ∧
      (∀ n, code = 6 → args = [n] → exec i s = exec (.fetch tag n) s) ∧
      (∀ g, code = 3 → args = [g, 15] → exec i s = exec (.requestLock tag g) s) ∧
      (∀ o x n, code = 1 → args = [o, x, n] → exec i s = exec (.read tag o x n) s) ∧
      (code = 9 → args = [] → exec i s = exec (.calibrate tag) s)) ∧
    (c = high ++ low → ¬mine →
      ∃ t, exec i s = .next t ∧
        Agree [.pending, .inputs, .moment, .ports, .ssw, .groups, .imu, .csv, .tmu] s t ∧
        t.mci = { s.mci with foreign := bump s.mci.foreign 65535, mstn := some 10 } ∧
        (t.alarm .mstn).present = true) ∧
    (c ≠ high ++ low →
      exec i s = .next { s with mci := { s.mci with badCrc := bump s.mci.badCrc 65535 } })) ∧
  (∀ (b : Byte) (s : State), s.mci.rx = .hunt →
    (b ≠ 0xA5 → exec (.commandMessage [b]) s = .next s) ∧
    (b.toNat < 3 ∨ 60 < b.toNat →
      exec (.commandMessage [0xA5, b]) s =
        .next { s with mci := { s.mci with badCrc := bump s.mci.badCrc 65535 } })) ∧
  (∀ (n : Nat) (s : State), s.openFrame.tickDue = true → Judgement.mstn ∉ s.openFrame.moment.done →
    s.mci.mstn = some n →
    (n ≤ 1 →
      ∃ t, exec .mstnTimerExpiry s = .next t ∧ Agree [.pending, .inputs, .ports, .ssw, .records] s t ∧
        t.mci = { s.mci with mstn := none } ∧ (t.alarm .mstn).present = false) ∧
    (1 < n → exec .mstnTimerExpiry s = .next s)) ∧
  (∀ (tag a b c : Byte) (es : List Byte) (s : State),
    2 ≤ s.mci.replies.length ∨ s.mci.restart.isSome = true →
    ∀ i ∈ [Instr.read tag a b c, .readUnit tag a b, .write tag a b es, .writePort tag a es, .writeGroup tag a es,
        .writeMap tag a es, .writeCable tag a es, .writeReference tag a es, .writeTiming tag a es,
        .writeProfile tag a es, .writeAssign tag a es, .writeUnit tag a es, .requestLock tag a, .requestForce tag a,
        .requestManP tag a, .requestManW tag a, .requestClear tag a, .patchOpen tag a b c, .patchClose tag a b c,
        .measure tag a b, .fetch tag a, .clear tag a b, .aco tag, .calibrate tag, .reinit tag, .restart tag],
      exec i s = .next { s with mci := { s.mci with dropped := bump s.mci.dropped 65535 } })

/-- REPLY_BEGIN, REPLY_SENT and DEFERRED_CHANGE_APPLIED at the coming local frame start, and the bytes that
LOCAL_FRAME_START puts into the frames. The first queued reply begins where none is being sent; one whose last byte
has been sent leaves the queue; the change that waits for it is applied then: a management group record is stored
and its group reset; a management group number is taken. A partly received message is discarded, and the source port
is at once that of the member which the group's evaluation at this local frame start chooses, with a new number and
where the record changes the members (a swap counts as a change, log entry 42). A reply being sent gives its next
two bytes to the members of the management group, with the fill byte behind its last one; with none, both are fill.
The source port is that of the selected member, and MLOST is present exactly while the management group is undefined
or every member of it is out of SYNC or has SF. Where no reply waits, or its bytes have not all left, the rows find
nothing to do (log entry 3). -/
def Obligations.RepliesBeginAndLeave : Prop :=
  (∀ s : State, s.mci.sending = none →
    (s.mci.replies ≠ [] →
      exec .replyBegin s =
        .next { s.openFrame with mci := { s.openFrame.mci with sending := some 0 } }) ∧
    (s.mci.replies = [] → exec .replyBegin s = .next s)) ∧
  (∀ (r : Reply) (rest : List Reply) (n : Nat) (s : State), s.mci.replies = r :: rest → s.mci.sending = some n →
    let u := s.openFrame
    let after : State → Prop := fun t =>
      Agree [.pending, .inputs, .moment, .ports, .ssw, .imu, .csv, .tmu] u t ∧ t.mci.replies = rest ∧
        t.mci.sending = none ∧ t.mci.pendingRecord = none ∧ t.mci.pendingNumber = none
    (n < r.bytes.length → exec .replySent s = .next s) ∧
    (r.bytes.length ≤ n → r.effect = .plain →
      exec .replySent s = .next { u with mci := { u.mci with replies := rest, sending := none } }) ∧
    (∀ g, s.mci.pendingNumber = some g → r.bytes.length ≤ n → r.effect = .deferred → s.mci.pendingRecord = none →
      ∃ t, exec .deferredChangeApplied s = .next t ∧ after t ∧ t.mci.group = g ∧ t.mci.rx = .hunt ∧
        t.groups = u.groups ∧
        let x := if .group g ∈ u.moment.done ∧ (u.group g).rewritten = false then u.group g else u.evaluated g
        t.mci.source = x.portOf x.selector) ∧
    (∀ x, s.mci.pendingRecord = some x → r.bytes.length ≤ n → r.effect = .deferred → s.mci.pendingNumber = none →
      ∃ t, exec .deferredChangeApplied s = .next t ∧ after t ∧ t.mci.group = s.mci.group ∧
        (t.group s.mci.group).record = x ∧ (t.group s.mci.group).selector = .w ∧
        (t.group s.mci.group).operator = .none ∧ (t.group s.mci.group).psf = none ∧
        (let was := ((u.group s.mci.group).portOf .w, (u.group s.mci.group).portOf .p)
         let now := (x.working, if x.working.isSome then x.protection else none)
         let y := t.evaluated s.mci.group
         (was ≠ now → t.mci.rx = .hunt ∧ t.mci.source = y.portOf y.selector) ∧
         (was = now → t.mci.rx = s.mci.rx ∧ t.mci.source = s.mci.source)) ∧
        ∀ h, h ≠ s.mci.group → t.group h = u.group h)) ∧
  (∀ (x : FrameInputs) (s : State), s.moment.opened = false → s.coldRestartDue = false →
    ∃ t, exec (.localFrameStart x) s = .next t ∧
      (∀ p : Fin 8, t.managementGroup.hasMember p = true → (t.port p).loopback ≠ .facility →
        ∃ f, (t.port p).txFrame = some f ∧ f.overhead[11] = t.mci.out.1 ∧ f.overhead[12] = t.mci.out.2) ∧
      (∀ r rest n, s.mci.replies = r :: rest → s.mci.sending = some n → n < r.bytes.length →
        t.mci.out = (r.bytes.getD n 0xFF, r.bytes.getD (n + 1) 0xFF) ∧ t.mci.sending = some (n + 2) ∧
          t.mci.replies = s.mci.replies) ∧
      (s.mci.replies = [] → s.mci.sending = none → t.mci.out = (0xFF, 0xFF) ∧ t.mci.sending = none) ∧
      t.mci.source = t.managementGroup.portOf t.managementGroup.selector ∧
      (t.mci.mlost = true ↔ t.managementGroup.defined = false ∨
        ∀ p : Fin 8, t.managementGroup.hasMember p = true → (t.port p).align ≠ .sync ∨ t.sf p = true) ∧
      (t.alarm .mlost).present = t.mci.mlost)

/-- REINIT, RESTART and PENDING_RESTART_ACTS. Either command, where a reply can be queued, is answered DONE and
makes a restart pending. When its reply has been sent, a cold one is what RESET does; a warm one leaves the tables,
the map, the receivers and the groups with every item of their dynamic state, sets the parity totals and slip counts
of every port, the management counts and the failure counts to 0, ends every suspension, puts V0 first in a new
calibration round, makes QOVF, CAL and every AUD cell absent, leaves the presence of every other cell, returns every
alarm cell to IDLE or, where its defect is present and its mode is not OFF, to RAISING, de-energizes the relay AUD,
and leaves one record, RESTART with sequence number 0. -/
def Obligations.RestartsWaitForTheirReply : Prop :=
  (∀ (tag : Byte) (s : State), s.canTake = true →
    let pending : RestartKind → Byte → State := fun k code =>
      State.answered tag code { Answer.plain .done with effect := .restart }
        { s with mci := { s.mci with restart := some k } }
    exec (.reinit tag) s = .next (pending .warm 10) ∧ exec (.restart tag) s = .next (pending .cold 11)) ∧
  (∀ (x : Straps) (r : Reply) (rest : List Reply) (n : Nat) (s : State), s.mci.replies = r :: rest →
    s.mci.sending = some n → r.bytes.length ≤ n → r.effect = .restart →
    let v := State.openFrame { s with inputs := { s.inputs with straps := x } }
    (s.mci.restart = some .cold → exec (.pendingRestartActs x) s = exec (.reset x) s) ∧
    (s.mci.restart = some .warm →
      ∃ t, exec (.pendingRestartActs x) s = .next t ∧
        Agree [.pending, .inputs, .moment, .ssw, .groups, .tmu] v t ∧
        (∀ p, t.port p = { v.port p with total := 0, slipCount := 0 }) ∧
        t.mci =
          { v.mci with replies := rest, sending := none, badCrc := 0, dropped := 0, foreign := 0, restart := none } ∧
        (∀ p, (t.cable p).suspended = false ∧ (t.cable p).failures = 0 ∧ (t.cable p).record = (v.cable p).record ∧
          (t.cable p).verdict = (v.cable p).verdict ∧ (t.cable p).window = (v.cable p).window) ∧
        t.imu.burst = none ∧ t.imu.coarseCount = 0 ∧ t.imu.roundPending = false ∧
        t.imu.round.map Round.turn = some 0 ∧ (∀ w, (t.vernier w).faulted = false) ∧
        t.alu.profiles = v.alu.profiles ∧ t.alu.assigned = v.alu.assigned ∧ t.alu.relays.aud = false ∧
        (∀ a,
          (t.alarm a).present = ((v.alarm a).present && a != .qovf && a != .cal && a.kind != 8) ∧
          (t.alarm a).state =
            (if (t.alarm a).present = true ∧ (v.entryOf a).mode ≠ .off then .raising else .idle)) ∧
        t.queue.records.map Record.report = [.restart .warm] ∧ t.queue.records.map Record.sequence = [0] ∧
        t.queue.sequence = 1 ∧ t.queue.lost = 0 ∧ (t.alarm .qovf).present = false))

/-! ## Laws that every step keeps -/

/-- Every step keeps the laws of the Timing Unit: I and FW stay within -2047 … +2047 and ACC within 0 … 65,535; a
reference is selected in ACQUIRE and LOCKED only and there always, a candidate is DISABLED exactly while it is not
enabled, outside the instant of a local frame start the selected reference is eligible and every eligible candidate
AVAILABLE, in HOLDOVER FW equals I, and in FREE-RUN both are 0. -/
def Obligations.TimingLawsAreKept : Prop :=
  ∀ s t : State, s.GeneratorLaw → s.SelectionLaw → step s = .next t → t.GeneratorLaw ∧ t.SelectionLaw

/-- Every step keeps the laws of the two queues: at most 64 records, numbered without a gap, with QOVF present
exactly while records are lost; at most 2 replies, with none being sent while none is queued. -/
def Obligations.QueueLawsAreKept : Prop :=
  ∀ s t : State, s.QueueLaw → s.ReplyLaw → step s = .next t → t.QueueLaw ∧ t.ReplyLaw

/-- Every step keeps the laws of the Group Table and the Slot Map: sound records, no port a member of two groups,
every line slot of a group mapped once, no undefined group mapped, and P selected only in a group with a protection
member. -/
def Obligations.TableLawsAreKept : Prop :=
  ∀ s t : State, s.GroupLaw → s.MapLaw → s.SelectorLaw → step s = .next t →
    t.GroupLaw ∧ t.MapLaw ∧ t.SelectorLaw

/-- Every step keeps the laws of the measurement: a CAL in force is 24 to 63 and a vernier in fault has none; the
audit queue holds a port at most once, and never one whose audit is active or suspended. It keeps the markers' law
with them: bursts of one sample or more, an active audit with a slot to resolve, none departed after the running
local frame, and no marker or echo placed outside the instant of a local frame start. -/
def Obligations.MeasurementLawsAreKept : Prop :=
  ∀ s t : State, s.VernierLaw → s.AuditLaw → step s = .next t →
    t.VernierLaw ∧ t.AuditLaw ∧ (s.MarkerLaw → t.MarkerLaw)

/-- Every step keeps the laws of the patch windows and the receivers: PATCHING is the verdict exactly while a window
is open, with no periodic timer; LOS holds the receiver in HUNT; multiframe alignment, quality, trace and a length
verdict exist in SYNC only. -/
def Obligations.PortLawsAreKept : Prop :=
  ∀ s t : State, s.WindowLaw → s.ReceiverLaw → step s = .next t → t.WindowLaw ∧ t.ReceiverLaw

/-- Every step keeps the delivery law: each of the 106 alarm cells holds the presence that its owner holds. -/
def Obligations.PresenceLawIsKept : Prop :=
  ∀ s t : State, s.PresenceLaw → step s = .next t → t.PresenceLaw

/-- Every step keeps the laws of the Alarm Unit: each action flag is what its mode says, and CRIT, MAJ and MIN are
energized exactly while a cell counts toward them. -/
def Obligations.AlarmLawsAreKept : Prop :=
  ∀ s t : State, s.FlagLaw → s.RelayLaw → step s = .next t → t.FlagLaw ∧ t.RelayLaw
end

