-- ==== Sys2Proof/Laws/State.lean ====
section
/-! SUPPORT. What each elementary update of the state leaves as it was, field by field, and what it puts in its place.
Every lemma of the first part is true by rfl. -/

namespace Sys2Proof.Machine

open Sys2Proof

variable (s : State)

/-! ### modPort -/

@[simp] theorem State.modPort_pending (p : Fin 8) (f : Port → Port) : (s.modPort p f).pending = s.pending := rfl
@[simp] theorem State.modPort_inputs (p : Fin 8) (f : Port → Port) : (s.modPort p f).inputs = s.inputs := rfl
@[simp] theorem State.modPort_moment (p : Fin 8) (f : Port → Port) : (s.modPort p f).moment = s.moment := rfl
@[simp] theorem State.modPort_ssw (p : Fin 8) (f : Port → Port) : (s.modPort p f).ssw = s.ssw := rfl
@[simp] theorem State.modPort_groups (p : Fin 8) (f : Port → Port) : (s.modPort p f).groups = s.groups := rfl
@[simp] theorem State.modPort_imu (p : Fin 8) (f : Port → Port) : (s.modPort p f).imu = s.imu := rfl
@[simp] theorem State.modPort_csv (p : Fin 8) (f : Port → Port) : (s.modPort p f).csv = s.csv := rfl
@[simp] theorem State.modPort_tmu (p : Fin 8) (f : Port → Port) : (s.modPort p f).tmu = s.tmu := rfl
@[simp] theorem State.modPort_alu (p : Fin 8) (f : Port → Port) : (s.modPort p f).alu = s.alu := rfl
@[simp] theorem State.modPort_queue (p : Fin 8) (f : Port → Port) : (s.modPort p f).queue = s.queue := rfl
@[simp] theorem State.modPort_mci (p : Fin 8) (f : Port → Port) : (s.modPort p f).mci = s.mci := rfl

/-! ### modGroup -/

@[simp] theorem State.modGroup_pending (g : Fin 8) (f : Group → Group) : (s.modGroup g f).pending = s.pending := rfl
@[simp] theorem State.modGroup_inputs (g : Fin 8) (f : Group → Group) : (s.modGroup g f).inputs = s.inputs := rfl
@[simp] theorem State.modGroup_moment (g : Fin 8) (f : Group → Group) : (s.modGroup g f).moment = s.moment := rfl
@[simp] theorem State.modGroup_ports (g : Fin 8) (f : Group → Group) : (s.modGroup g f).ports = s.ports := rfl
@[simp] theorem State.modGroup_ssw (g : Fin 8) (f : Group → Group) : (s.modGroup g f).ssw = s.ssw := rfl
@[simp] theorem State.modGroup_imu (g : Fin 8) (f : Group → Group) : (s.modGroup g f).imu = s.imu := rfl
@[simp] theorem State.modGroup_csv (g : Fin 8) (f : Group → Group) : (s.modGroup g f).csv = s.csv := rfl
@[simp] theorem State.modGroup_tmu (g : Fin 8) (f : Group → Group) : (s.modGroup g f).tmu = s.tmu := rfl
@[simp] theorem State.modGroup_alu (g : Fin 8) (f : Group → Group) : (s.modGroup g f).alu = s.alu := rfl
@[simp] theorem State.modGroup_queue (g : Fin 8) (f : Group → Group) : (s.modGroup g f).queue = s.queue := rfl
@[simp] theorem State.modGroup_mci (g : Fin 8) (f : Group → Group) : (s.modGroup g f).mci = s.mci := rfl

/-! ### modCable -/

@[simp] theorem State.modCable_pending (p : Fin 8) (f : Cable → Cable) : (s.modCable p f).pending = s.pending := rfl
@[simp] theorem State.modCable_inputs (p : Fin 8) (f : Cable → Cable) : (s.modCable p f).inputs = s.inputs := rfl
@[simp] theorem State.modCable_moment (p : Fin 8) (f : Cable → Cable) : (s.modCable p f).moment = s.moment := rfl
@[simp] theorem State.modCable_ports (p : Fin 8) (f : Cable → Cable) : (s.modCable p f).ports = s.ports := rfl
@[simp] theorem State.modCable_ssw (p : Fin 8) (f : Cable → Cable) : (s.modCable p f).ssw = s.ssw := rfl
@[simp] theorem State.modCable_groups (p : Fin 8) (f : Cable → Cable) : (s.modCable p f).groups = s.groups := rfl
@[simp] theorem State.modCable_imu (p : Fin 8) (f : Cable → Cable) : (s.modCable p f).imu = s.imu := rfl
@[simp] theorem State.modCable_tmu (p : Fin 8) (f : Cable → Cable) : (s.modCable p f).tmu = s.tmu := rfl
@[simp] theorem State.modCable_alu (p : Fin 8) (f : Cable → Cable) : (s.modCable p f).alu = s.alu := rfl
@[simp] theorem State.modCable_queue (p : Fin 8) (f : Cable → Cable) : (s.modCable p f).queue = s.queue := rfl
@[simp] theorem State.modCable_mci (p : Fin 8) (f : Cable → Cable) : (s.modCable p f).mci = s.mci := rfl

/-! ### modCand -/

@[simp] theorem State.modCand_pending (k : Fin 10) (f : Cand → Cand) : (s.modCand k f).pending = s.pending := rfl
@[simp] theorem State.modCand_inputs (k : Fin 10) (f : Cand → Cand) : (s.modCand k f).inputs = s.inputs := rfl
@[simp] theorem State.modCand_moment (k : Fin 10) (f : Cand → Cand) : (s.modCand k f).moment = s.moment := rfl
@[simp] theorem State.modCand_ports (k : Fin 10) (f : Cand → Cand) : (s.modCand k f).ports = s.ports := rfl
@[simp] theorem State.modCand_ssw (k : Fin 10) (f : Cand → Cand) : (s.modCand k f).ssw = s.ssw := rfl
@[simp] theorem State.modCand_groups (k : Fin 10) (f : Cand → Cand) : (s.modCand k f).groups = s.groups := rfl
@[simp] theorem State.modCand_imu (k : Fin 10) (f : Cand → Cand) : (s.modCand k f).imu = s.imu := rfl
@[simp] theorem State.modCand_csv (k : Fin 10) (f : Cand → Cand) : (s.modCand k f).csv = s.csv := rfl
@[simp] theorem State.modCand_alu (k : Fin 10) (f : Cand → Cand) : (s.modCand k f).alu = s.alu := rfl
@[simp] theorem State.modCand_queue (k : Fin 10) (f : Cand → Cand) : (s.modCand k f).queue = s.queue := rfl
@[simp] theorem State.modCand_mci (k : Fin 10) (f : Cand → Cand) : (s.modCand k f).mci = s.mci := rfl

/-! ### modVernier -/

@[simp] theorem State.modVernier_pending (v : Fin 4) (f : Vernier → Vernier) : (s.modVernier v f).pending = s.pending := rfl
@[simp] theorem State.modVernier_inputs (v : Fin 4) (f : Vernier → Vernier) : (s.modVernier v f).inputs = s.inputs := rfl
@[simp] theorem State.modVernier_moment (v : Fin 4) (f : Vernier → Vernier) : (s.modVernier v f).moment = s.moment := rfl
@[simp] theorem State.modVernier_ports (v : Fin 4) (f : Vernier → Vernier) : (s.modVernier v f).ports = s.ports := rfl
@[simp] theorem State.modVernier_ssw (v : Fin 4) (f : Vernier → Vernier) : (s.modVernier v f).ssw = s.ssw := rfl
@[simp] theorem State.modVernier_groups (v : Fin 4) (f : Vernier → Vernier) : (s.modVernier v f).groups = s.groups := rfl
@[simp] theorem State.modVernier_csv (v : Fin 4) (f : Vernier → Vernier) : (s.modVernier v f).csv = s.csv := rfl
@[simp] theorem State.modVernier_tmu (v : Fin 4) (f : Vernier → Vernier) : (s.modVernier v f).tmu = s.tmu := rfl
@[simp] theorem State.modVernier_alu (v : Fin 4) (f : Vernier → Vernier) : (s.modVernier v f).alu = s.alu := rfl
@[simp] theorem State.modVernier_queue (v : Fin 4) (f : Vernier → Vernier) : (s.modVernier v f).queue = s.queue := rfl
@[simp] theorem State.modVernier_mci (v : Fin 4) (f : Vernier → Vernier) : (s.modVernier v f).mci = s.mci := rfl

/-! ### modQuality -/

@[simp] theorem State.modQuality_pending (p : Fin 8) (f : QualityFilter → QualityFilter) : (s.modQuality p f).pending = s.pending := rfl
@[simp] theorem State.modQuality_inputs (p : Fin 8) (f : QualityFilter → QualityFilter) : (s.modQuality p f).inputs = s.inputs := rfl
@[simp] theorem State.modQuality_moment (p : Fin 8) (f : QualityFilter → QualityFilter) : (s.modQuality p f).moment = s.moment := rfl
@[simp] theorem State.modQuality_ports (p : Fin 8) (f : QualityFilter → QualityFilter) : (s.modQuality p f).ports = s.ports := rfl
@[simp] theorem State.modQuality_ssw (p : Fin 8) (f : QualityFilter → QualityFilter) : (s.modQuality p f).ssw = s.ssw := rfl
@[simp] theorem State.modQuality_groups (p : Fin 8) (f : QualityFilter → QualityFilter) : (s.modQuality p f).groups = s.groups := rfl
@[simp] theorem State.modQuality_imu (p : Fin 8) (f : QualityFilter → QualityFilter) : (s.modQuality p f).imu = s.imu := rfl
@[simp] theorem State.modQuality_csv (p : Fin 8) (f : QualityFilter → QualityFilter) : (s.modQuality p f).csv = s.csv := rfl
@[simp] theorem State.modQuality_alu (p : Fin 8) (f : QualityFilter → QualityFilter) : (s.modQuality p f).alu = s.alu := rfl
@[simp] theorem State.modQuality_queue (p : Fin 8) (f : QualityFilter → QualityFilter) : (s.modQuality p f).queue = s.queue := rfl
@[simp] theorem State.modQuality_mci (p : Fin 8) (f : QualityFilter → QualityFilter) : (s.modQuality p f).mci = s.mci := rfl

/-! ### setNews -/

@[simp] theorem State.setNews_pending (f : News → News) : (s.setNews f).pending = s.pending := rfl
@[simp] theorem State.setNews_inputs (f : News → News) : (s.setNews f).inputs = s.inputs := rfl
@[simp] theorem State.setNews_moment (f : News → News) : (s.setNews f).moment = s.moment := rfl
@[simp] theorem State.setNews_ports (f : News → News) : (s.setNews f).ports = s.ports := rfl
@[simp] theorem State.setNews_ssw (f : News → News) : (s.setNews f).ssw = s.ssw := rfl
@[simp] theorem State.setNews_groups (f : News → News) : (s.setNews f).groups = s.groups := rfl
@[simp] theorem State.setNews_imu (f : News → News) : (s.setNews f).imu = s.imu := rfl
@[simp] theorem State.setNews_csv (f : News → News) : (s.setNews f).csv = s.csv := rfl
@[simp] theorem State.setNews_tmu (f : News → News) : (s.setNews f).tmu = s.tmu := rfl
@[simp] theorem State.setNews_alu (f : News → News) : (s.setNews f).alu = s.alu := rfl
@[simp] theorem State.setNews_mci (f : News → News) : (s.setNews f).mci = s.mci := rfl

/-! ### advanceClock -/

@[simp] theorem State.advanceClock_pending (n : Nat) : (s.advanceClock n).pending = s.pending := rfl
@[simp] theorem State.advanceClock_inputs (n : Nat) : (s.advanceClock n).inputs = s.inputs := rfl
@[simp] theorem State.advanceClock_moment (n : Nat) : (s.advanceClock n).moment = s.moment := rfl
@[simp] theorem State.advanceClock_ports (n : Nat) : (s.advanceClock n).ports = s.ports := rfl
@[simp] theorem State.advanceClock_ssw (n : Nat) : (s.advanceClock n).ssw = s.ssw := rfl
@[simp] theorem State.advanceClock_groups (n : Nat) : (s.advanceClock n).groups = s.groups := rfl
@[simp] theorem State.advanceClock_csv (n : Nat) : (s.advanceClock n).csv = s.csv := rfl
@[simp] theorem State.advanceClock_tmu (n : Nat) : (s.advanceClock n).tmu = s.tmu := rfl
@[simp] theorem State.advanceClock_alu (n : Nat) : (s.advanceClock n).alu = s.alu := rfl
@[simp] theorem State.advanceClock_queue (n : Nat) : (s.advanceClock n).queue = s.queue := rfl
@[simp] theorem State.advanceClock_mci (n : Nat) : (s.advanceClock n).mci = s.mci := rfl

/-! ### judgeRelays -/

@[simp] theorem State.judgeRelays_pending  : (s.judgeRelays).pending = s.pending := rfl
@[simp] theorem State.judgeRelays_inputs  : (s.judgeRelays).inputs = s.inputs := rfl
@[simp] theorem State.judgeRelays_moment  : (s.judgeRelays).moment = s.moment := rfl
@[simp] theorem State.judgeRelays_ports  : (s.judgeRelays).ports = s.ports := rfl
@[simp] theorem State.judgeRelays_ssw  : (s.judgeRelays).ssw = s.ssw := rfl
@[simp] theorem State.judgeRelays_groups  : (s.judgeRelays).groups = s.groups := rfl
@[simp] theorem State.judgeRelays_imu  : (s.judgeRelays).imu = s.imu := rfl
@[simp] theorem State.judgeRelays_csv  : (s.judgeRelays).csv = s.csv := rfl
@[simp] theorem State.judgeRelays_tmu  : (s.judgeRelays).tmu = s.tmu := rfl
@[simp] theorem State.judgeRelays_queue  : (s.judgeRelays).queue = s.queue := rfl
@[simp] theorem State.judgeRelays_mci  : (s.judgeRelays).mci = s.mci := rfl

/-! ### putAlarm -/

@[simp] theorem State.putAlarm_pending (a : AlarmId) (x : Alarm) : (s.putAlarm a x).pending = s.pending := rfl
@[simp] theorem State.putAlarm_inputs (a : AlarmId) (x : Alarm) : (s.putAlarm a x).inputs = s.inputs := rfl
@[simp] theorem State.putAlarm_moment (a : AlarmId) (x : Alarm) : (s.putAlarm a x).moment = s.moment := rfl
@[simp] theorem State.putAlarm_ports (a : AlarmId) (x : Alarm) : (s.putAlarm a x).ports = s.ports := rfl
@[simp] theorem State.putAlarm_ssw (a : AlarmId) (x : Alarm) : (s.putAlarm a x).ssw = s.ssw := rfl
@[simp] theorem State.putAlarm_groups (a : AlarmId) (x : Alarm) : (s.putAlarm a x).groups = s.groups := rfl
@[simp] theorem State.putAlarm_imu (a : AlarmId) (x : Alarm) : (s.putAlarm a x).imu = s.imu := rfl
@[simp] theorem State.putAlarm_csv (a : AlarmId) (x : Alarm) : (s.putAlarm a x).csv = s.csv := rfl
@[simp] theorem State.putAlarm_tmu (a : AlarmId) (x : Alarm) : (s.putAlarm a x).tmu = s.tmu := rfl
@[simp] theorem State.putAlarm_queue (a : AlarmId) (x : Alarm) : (s.putAlarm a x).queue = s.queue := rfl
@[simp] theorem State.putAlarm_mci (a : AlarmId) (x : Alarm) : (s.putAlarm a x).mci = s.mci := rfl

/-! ### putSoak -/

@[simp] theorem State.putSoak_pending (a : AlarmId) (n : Nat) : (s.putSoak a n).pending = s.pending := rfl
@[simp] theorem State.putSoak_inputs (a : AlarmId) (n : Nat) : (s.putSoak a n).inputs = s.inputs := rfl
@[simp] theorem State.putSoak_moment (a : AlarmId) (n : Nat) : (s.putSoak a n).moment = s.moment := rfl
@[simp] theorem State.putSoak_ports (a : AlarmId) (n : Nat) : (s.putSoak a n).ports = s.ports := rfl
@[simp] theorem State.putSoak_ssw (a : AlarmId) (n : Nat) : (s.putSoak a n).ssw = s.ssw := rfl
@[simp] theorem State.putSoak_groups (a : AlarmId) (n : Nat) : (s.putSoak a n).groups = s.groups := rfl
@[simp] theorem State.putSoak_imu (a : AlarmId) (n : Nat) : (s.putSoak a n).imu = s.imu := rfl
@[simp] theorem State.putSoak_csv (a : AlarmId) (n : Nat) : (s.putSoak a n).csv = s.csv := rfl
@[simp] theorem State.putSoak_tmu (a : AlarmId) (n : Nat) : (s.putSoak a n).tmu = s.tmu := rfl
@[simp] theorem State.putSoak_queue (a : AlarmId) (n : Nat) : (s.putSoak a n).queue = s.queue := rfl
@[simp] theorem State.putSoak_mci (a : AlarmId) (n : Nat) : (s.putSoak a n).mci = s.mci := rfl

/-! ### cutOff -/

@[simp] theorem State.cutOff_pending  : (s.cutOff).pending = s.pending := rfl
@[simp] theorem State.cutOff_inputs  : (s.cutOff).inputs = s.inputs := rfl
@[simp] theorem State.cutOff_moment  : (s.cutOff).moment = s.moment := rfl
@[simp] theorem State.cutOff_ports  : (s.cutOff).ports = s.ports := rfl
@[simp] theorem State.cutOff_ssw  : (s.cutOff).ssw = s.ssw := rfl
@[simp] theorem State.cutOff_groups  : (s.cutOff).groups = s.groups := rfl
@[simp] theorem State.cutOff_imu  : (s.cutOff).imu = s.imu := rfl
@[simp] theorem State.cutOff_csv  : (s.cutOff).csv = s.csv := rfl
@[simp] theorem State.cutOff_tmu  : (s.cutOff).tmu = s.tmu := rfl
@[simp] theorem State.cutOff_queue  : (s.cutOff).queue = s.queue := rfl
@[simp] theorem State.cutOff_mci  : (s.cutOff).mci = s.mci := rfl

/-! ### signalAbsent -/

@[simp] theorem State.signalAbsent_pending (g : Fin 8) : (s.signalAbsent g).pending = s.pending := rfl
@[simp] theorem State.signalAbsent_inputs (g : Fin 8) : (s.signalAbsent g).inputs = s.inputs := rfl
@[simp] theorem State.signalAbsent_moment (g : Fin 8) : (s.signalAbsent g).moment = s.moment := rfl
@[simp] theorem State.signalAbsent_ports (g : Fin 8) : (s.signalAbsent g).ports = s.ports := rfl
@[simp] theorem State.signalAbsent_ssw (g : Fin 8) : (s.signalAbsent g).ssw = s.ssw := rfl
@[simp] theorem State.signalAbsent_imu (g : Fin 8) : (s.signalAbsent g).imu = s.imu := rfl
@[simp] theorem State.signalAbsent_csv (g : Fin 8) : (s.signalAbsent g).csv = s.csv := rfl
@[simp] theorem State.signalAbsent_tmu (g : Fin 8) : (s.signalAbsent g).tmu = s.tmu := rfl
@[simp] theorem State.signalAbsent_alu (g : Fin 8) : (s.signalAbsent g).alu = s.alu := rfl
@[simp] theorem State.signalAbsent_queue (g : Fin 8) : (s.signalAbsent g).queue = s.queue := rfl
@[simp] theorem State.signalAbsent_mci (g : Fin 8) : (s.signalAbsent g).mci = s.mci := rfl

/-! ### discardMessage -/

@[simp] theorem State.discardMessage_pending  : (s.discardMessage).pending = s.pending := rfl
@[simp] theorem State.discardMessage_inputs  : (s.discardMessage).inputs = s.inputs := rfl
@[simp] theorem State.discardMessage_moment  : (s.discardMessage).moment = s.moment := rfl
@[simp] theorem State.discardMessage_ports  : (s.discardMessage).ports = s.ports := rfl
@[simp] theorem State.discardMessage_ssw  : (s.discardMessage).ssw = s.ssw := rfl
@[simp] theorem State.discardMessage_groups  : (s.discardMessage).groups = s.groups := rfl
@[simp] theorem State.discardMessage_imu  : (s.discardMessage).imu = s.imu := rfl
@[simp] theorem State.discardMessage_csv  : (s.discardMessage).csv = s.csv := rfl
@[simp] theorem State.discardMessage_tmu  : (s.discardMessage).tmu = s.tmu := rfl
@[simp] theorem State.discardMessage_alu  : (s.discardMessage).alu = s.alu := rfl
@[simp] theorem State.discardMessage_queue  : (s.discardMessage).queue = s.queue := rfl

/-! ### setRx -/

@[simp] theorem State.setRx_pending (x : RxState) : (s.setRx x).pending = s.pending := rfl
@[simp] theorem State.setRx_inputs (x : RxState) : (s.setRx x).inputs = s.inputs := rfl
@[simp] theorem State.setRx_moment (x : RxState) : (s.setRx x).moment = s.moment := rfl
@[simp] theorem State.setRx_ports (x : RxState) : (s.setRx x).ports = s.ports := rfl
@[simp] theorem State.setRx_ssw (x : RxState) : (s.setRx x).ssw = s.ssw := rfl
@[simp] theorem State.setRx_groups (x : RxState) : (s.setRx x).groups = s.groups := rfl
@[simp] theorem State.setRx_imu (x : RxState) : (s.setRx x).imu = s.imu := rfl
@[simp] theorem State.setRx_csv (x : RxState) : (s.setRx x).csv = s.csv := rfl
@[simp] theorem State.setRx_tmu (x : RxState) : (s.setRx x).tmu = s.tmu := rfl
@[simp] theorem State.setRx_alu (x : RxState) : (s.setRx x).alu = s.alu := rfl
@[simp] theorem State.setRx_queue (x : RxState) : (s.setRx x).queue = s.queue := rfl

/-! ### dropReply -/

@[simp] theorem State.dropReply_pending  : (s.dropReply).pending = s.pending := rfl
@[simp] theorem State.dropReply_inputs  : (s.dropReply).inputs = s.inputs := rfl
@[simp] theorem State.dropReply_moment  : (s.dropReply).moment = s.moment := rfl
@[simp] theorem State.dropReply_ports  : (s.dropReply).ports = s.ports := rfl
@[simp] theorem State.dropReply_ssw  : (s.dropReply).ssw = s.ssw := rfl
@[simp] theorem State.dropReply_groups  : (s.dropReply).groups = s.groups := rfl
@[simp] theorem State.dropReply_imu  : (s.dropReply).imu = s.imu := rfl
@[simp] theorem State.dropReply_csv  : (s.dropReply).csv = s.csv := rfl
@[simp] theorem State.dropReply_tmu  : (s.dropReply).tmu = s.tmu := rfl
@[simp] theorem State.dropReply_alu  : (s.dropReply).alu = s.alu := rfl
@[simp] theorem State.dropReply_queue  : (s.dropReply).queue = s.queue := rfl

/-! ### dropBurst -/

@[simp] theorem State.dropBurst_pending  : (s.dropBurst).pending = s.pending := rfl
@[simp] theorem State.dropBurst_inputs  : (s.dropBurst).inputs = s.inputs := rfl
@[simp] theorem State.dropBurst_moment  : (s.dropBurst).moment = s.moment := rfl
@[simp] theorem State.dropBurst_ports  : (s.dropBurst).ports = s.ports := rfl
@[simp] theorem State.dropBurst_ssw  : (s.dropBurst).ssw = s.ssw := rfl
@[simp] theorem State.dropBurst_groups  : (s.dropBurst).groups = s.groups := rfl
@[simp] theorem State.dropBurst_csv  : (s.dropBurst).csv = s.csv := rfl
@[simp] theorem State.dropBurst_tmu  : (s.dropBurst).tmu = s.tmu := rfl
@[simp] theorem State.dropBurst_alu  : (s.dropBurst).alu = s.alu := rfl
@[simp] theorem State.dropBurst_queue  : (s.dropBurst).queue = s.queue := rfl
@[simp] theorem State.dropBurst_mci  : (s.dropBurst).mci = s.mci := rfl

/-! ### advanceDither -/

@[simp] theorem State.advanceDither_pending  : (s.advanceDither).pending = s.pending := rfl
@[simp] theorem State.advanceDither_inputs  : (s.advanceDither).inputs = s.inputs := rfl
@[simp] theorem State.advanceDither_moment  : (s.advanceDither).moment = s.moment := rfl
@[simp] theorem State.advanceDither_ports  : (s.advanceDither).ports = s.ports := rfl
@[simp] theorem State.advanceDither_ssw  : (s.advanceDither).ssw = s.ssw := rfl
@[simp] theorem State.advanceDither_groups  : (s.advanceDither).groups = s.groups := rfl
@[simp] theorem State.advanceDither_imu  : (s.advanceDither).imu = s.imu := rfl
@[simp] theorem State.advanceDither_tmu  : (s.advanceDither).tmu = s.tmu := rfl
@[simp] theorem State.advanceDither_alu  : (s.advanceDither).alu = s.alu := rfl
@[simp] theorem State.advanceDither_queue  : (s.advanceDither).queue = s.queue := rfl
@[simp] theorem State.advanceDither_mci  : (s.advanceDither).mci = s.mci := rfl

/-! ### modStation -/

@[simp] theorem State.modStation_pending (i : Fin 2) (f : StationInput → StationInput) : (s.modStation i f).pending = s.pending := rfl
@[simp] theorem State.modStation_inputs (i : Fin 2) (f : StationInput → StationInput) : (s.modStation i f).inputs = s.inputs := rfl
@[simp] theorem State.modStation_moment (i : Fin 2) (f : StationInput → StationInput) : (s.modStation i f).moment = s.moment := rfl
@[simp] theorem State.modStation_ports (i : Fin 2) (f : StationInput → StationInput) : (s.modStation i f).ports = s.ports := rfl
@[simp] theorem State.modStation_ssw (i : Fin 2) (f : StationInput → StationInput) : (s.modStation i f).ssw = s.ssw := rfl
@[simp] theorem State.modStation_groups (i : Fin 2) (f : StationInput → StationInput) : (s.modStation i f).groups = s.groups := rfl
@[simp] theorem State.modStation_imu (i : Fin 2) (f : StationInput → StationInput) : (s.modStation i f).imu = s.imu := rfl
@[simp] theorem State.modStation_csv (i : Fin 2) (f : StationInput → StationInput) : (s.modStation i f).csv = s.csv := rfl
@[simp] theorem State.modStation_alu (i : Fin 2) (f : StationInput → StationInput) : (s.modStation i f).alu = s.alu := rfl
@[simp] theorem State.modStation_queue (i : Fin 2) (f : StationInput → StationInput) : (s.modStation i f).queue = s.queue := rfl
@[simp] theorem State.modStation_mci (i : Fin 2) (f : StationInput → StationInput) : (s.modStation i f).mci = s.mci := rfl

/-! ### endMarkers -/

@[simp] theorem State.endMarkers_pending : (s.endMarkers).pending = s.pending := rfl
@[simp] theorem State.endMarkers_inputs : (s.endMarkers).inputs = s.inputs := rfl
@[simp] theorem State.endMarkers_moment : (s.endMarkers).moment = s.moment := rfl
@[simp] theorem State.endMarkers_ports : (s.endMarkers).ports = s.ports := rfl
@[simp] theorem State.endMarkers_ssw : (s.endMarkers).ssw = s.ssw := rfl
@[simp] theorem State.endMarkers_groups : (s.endMarkers).groups = s.groups := rfl
@[simp] theorem State.endMarkers_imu : (s.endMarkers).imu = s.imu := rfl
@[simp] theorem State.endMarkers_tmu : (s.endMarkers).tmu = s.tmu := rfl
@[simp] theorem State.endMarkers_alu : (s.endMarkers).alu = s.alu := rfl
@[simp] theorem State.endMarkers_queue : (s.endMarkers).queue = s.queue := rfl
@[simp] theorem State.endMarkers_mci : (s.endMarkers).mci = s.mci := rfl

/-! ### sourceStep -/

@[simp] theorem State.sourceStep_pending : (s.sourceStep).pending = s.pending := rfl
@[simp] theorem State.sourceStep_inputs : (s.sourceStep).inputs = s.inputs := rfl
@[simp] theorem State.sourceStep_moment : (s.sourceStep).moment = s.moment := rfl
@[simp] theorem State.sourceStep_ports : (s.sourceStep).ports = s.ports := rfl
@[simp] theorem State.sourceStep_ssw : (s.sourceStep).ssw = s.ssw := rfl
@[simp] theorem State.sourceStep_groups : (s.sourceStep).groups = s.groups := rfl
@[simp] theorem State.sourceStep_imu : (s.sourceStep).imu = s.imu := rfl
@[simp] theorem State.sourceStep_csv : (s.sourceStep).csv = s.csv := rfl
@[simp] theorem State.sourceStep_tmu : (s.sourceStep).tmu = s.tmu := rfl
@[simp] theorem State.sourceStep_alu : (s.sourceStep).alu = s.alu := rfl
@[simp] theorem State.sourceStep_queue : (s.sourceStep).queue = s.queue := rfl

/-! ### chooseSource -/

@[simp] theorem State.chooseSource_pending : (s.chooseSource).pending = s.pending := rfl
@[simp] theorem State.chooseSource_inputs : (s.chooseSource).inputs = s.inputs := rfl
@[simp] theorem State.chooseSource_moment : (s.chooseSource).moment = s.moment := rfl
@[simp] theorem State.chooseSource_ports : (s.chooseSource).ports = s.ports := rfl
@[simp] theorem State.chooseSource_ssw : (s.chooseSource).ssw = s.ssw := rfl
@[simp] theorem State.chooseSource_groups : (s.chooseSource).groups = s.groups := rfl
@[simp] theorem State.chooseSource_imu : (s.chooseSource).imu = s.imu := rfl
@[simp] theorem State.chooseSource_csv : (s.chooseSource).csv = s.csv := rfl
@[simp] theorem State.chooseSource_tmu : (s.chooseSource).tmu = s.tmu := rfl
@[simp] theorem State.chooseSource_alu : (s.chooseSource).alu = s.alu := rfl
@[simp] theorem State.chooseSource_queue : (s.chooseSource).queue = s.queue := rfl

/-! ### Reading back a table that has been written -/

@[simp] theorem State.port_modPort_self (p : Fin 8) (f : Port → Port) : (s.modPort p f).port p = f (s.port p) := by
  simp [State.port, State.modPort]

theorem State.port_modPort_other {p q : Fin 8} (h : p ≠ q) (f : Port → Port) : (s.modPort p f).port q = s.port q := by
  simp [State.port, State.modPort, Vector.getElem_set_ne, Fin.val_ne_of_ne h]

@[simp] theorem State.group_modGroup_self (g : Fin 8) (f : Group → Group) :
    (s.modGroup g f).group g = f (s.group g) := by
  simp [State.group, State.modGroup]

theorem State.group_modGroup_other {g h : Fin 8} (n : g ≠ h) (f : Group → Group) :
    (s.modGroup g f).group h = s.group h := by
  simp [State.group, State.modGroup, Vector.getElem_set_ne, Fin.val_ne_of_ne n]

@[simp] theorem State.cable_modCable_self (p : Fin 8) (f : Cable → Cable) :
    (s.modCable p f).cable p = f (s.cable p) := by
  simp [State.cable, State.modCable]

theorem State.cable_modCable_other {p q : Fin 8} (h : p ≠ q) (f : Cable → Cable) :
    (s.modCable p f).cable q = s.cable q := by
  simp [State.cable, State.modCable, Vector.getElem_set_ne, Fin.val_ne_of_ne h]

@[simp] theorem State.cand_modCand_self (k : Fin 10) (f : Cand → Cand) : (s.modCand k f).cand k = f (s.cand k) := by
  simp [State.cand, State.modCand]

theorem State.cand_modCand_other {k j : Fin 10} (h : k ≠ j) (f : Cand → Cand) : (s.modCand k f).cand j = s.cand j := by
  simp [State.cand, State.modCand, Vector.getElem_set_ne, Fin.val_ne_of_ne h]

@[simp] theorem State.vernier_modVernier_self (v : Fin 4) (f : Vernier → Vernier) :
    (s.modVernier v f).vernier v = f (s.vernier v) := by
  simp [State.vernier, State.modVernier]

theorem State.vernier_modVernier_other {v w : Fin 4} (h : v ≠ w) (f : Vernier → Vernier) :
    (s.modVernier v f).vernier w = s.vernier w := by
  simp [State.vernier, State.modVernier, Vector.getElem_set_ne, Fin.val_ne_of_ne h]

@[simp] theorem State.station_modStation_self (i : Fin 2) (f : StationInput → StationInput) :
    (s.modStation i f).tmu.stations[i] = f s.tmu.stations[i] := by
  simp [State.modStation]

theorem State.station_modStation_other {i j : Fin 2} (h : i ≠ j) (f : StationInput → StationInput) :
    (s.modStation i f).tmu.stations[j] = s.tmu.stations[j] := by
  simp [State.modStation, Vector.getElem_set_ne, Fin.val_ne_of_ne h]

@[simp] theorem State.endMarkers_cable (p : Fin 8) : s.endMarkers.cable p = s.cable p := rfl

/-- The alarm cells are numbered one to one (R152). -/
@[simp] theorem alarmOf_index (a : AlarmId) : alarmOf a.index = a := by
  cases a with
  | port p k => revert p; cases k <;> decide
  | psf g => revert g; decide
  | unprot g => revert g; decide
  | stationLos i => revert i; decide
  | stationRef i => revert i; decide
  | hold => rfl
  | free => rfl
  | cal => rfl
  | qovf => rfl
  | mstn => rfl
  | mlost => rfl

/-- The alarm cells are numbered one to one (R152). -/
@[simp] theorem index_alarmOf (n : Fin 106) : (alarmOf n).index = n := by
  revert n; decide

theorem index_inj {a b : AlarmId} : a.index = b.index ↔ a = b :=
  ⟨fun h => by rw [← alarmOf_index a, h, alarmOf_index], fun h => by rw [h]⟩

@[simp] theorem State.alarm_putAlarm_self (a : AlarmId) (x : Alarm) : (s.putAlarm a x).alarm a = x := by
  simp [State.alarm, State.putAlarm, State.judgeRelays]

theorem State.alarm_putAlarm_other {a b : AlarmId} (h : a ≠ b) (x : Alarm) :
    (s.putAlarm a x).alarm b = s.alarm b := by
  have : a.index.val ≠ b.index.val := fun e => h (index_inj.mp (Fin.ext e))
  simp [State.alarm, State.putAlarm, State.judgeRelays, Vector.getElem_set_ne, this]

@[simp] theorem State.alarm_judgeRelays (a : AlarmId) : s.judgeRelays.alarm a = s.alarm a := rfl

@[simp] theorem State.alarm_cutOff (a : AlarmId) : s.cutOff.alarm a = s.alarm a := rfl

end Sys2Proof.Machine
end

