-- ==== Sys2Proof/Laws/Keeps.lean ====
section
/-! SUPPORT. Which blocks of the state an operation leaves as they were. One lemma per shared operation; a proof takes
from it the field it needs, instead of unfolding the operation. -/

namespace Sys2Proof.Machine

open Sys2Proof

theorem Block.same_refl (b : Block) (s : State) : b.same s s := by cases b <;> rfl

theorem Block.same_trans {b : Block} {s t u : State} (h : b.same s t) (k : b.same t u) : b.same s u := by
  cases b <;> exact k.trans h

theorem Agree.refl (bs : List Block) (s : State) : Agree bs s s := fun b _ => b.same_refl s

theorem Agree.trans {bs : List Block} {s t u : State} (h : Agree bs s t) (k : Agree bs t u) : Agree bs s u :=
  fun b hb => Block.same_trans (h b hb) (k b hb)

theorem Agree.mono {bs cs : List Block} {s t : State} (h : Agree bs s t) (hc : ∀ b ∈ cs, b ∈ bs) : Agree cs s t :=
  fun b hb => h b (hc b hb)

theorem Agree.get {bs : List Block} {s t : State} (h : Agree bs s t) (b : Block) (hb : b ∈ bs) : b.same s t := h b hb

/-- A conditional step keeps what both branches keep. -/
theorem Agree.ite {bs : List Block} {s t u : State} {c : Prop} [Decidable c] (h : Agree bs s t) (k : Agree bs s u) :
    Agree bs s (if c then t else u) := by split <;> assumption

/-- A loop keeps what its step keeps. -/
theorem agree_foldl {α : Type} {bs : List Block} {f : State → α → State} (h : ∀ s a, Agree bs s (f s a)) (l : List α)
    (s : State) : Agree bs s (l.foldl f s) := by
  induction l generalizing s with
  | nil => exact .refl _ _
  | cons a l ih => exact (h s a).trans (ih _)

theorem agree_overAll {n : Nat} {bs : List Block} {f : Fin n → State → State} (h : ∀ i s, Agree bs s (f i s))
    (s : State) : Agree bs s (overAll f s) := agree_foldl (fun t i => h i t) _ s

theorem agree_overAlarms {bs : List Block} {f : AlarmId → State → State} (h : ∀ a s, Agree bs s (f a s)) (s : State) :
    Agree bs s (overAlarms f s) := agree_foldl (fun t a => h a t) _ s

theorem agree_ifOutcome {bs : List Block} {p : State → State → Bool} {f : State → State} {s : State}
    (h : Agree bs s (f s)) : Agree bs s (ifOutcome p f s) := by
  unfold ifOutcome; dsimp only; split
  · exact h
  · exact .refl _ _

theorem agree_firstOutcome {bs : List Block} {p : State → State → Bool} {fs : List (State → State)} {s : State}
    (h : ∀ f ∈ fs, Agree bs s (f s)) : Agree bs s (firstOutcome p fs s) := by
  induction fs with
  | nil => exact .refl _ _
  | cons f fs ih =>
    unfold firstOutcome; dsimp only; split
    · exact h f (List.mem_cons_self)
    · exact ih fun g hg => h g (List.mem_cons_of_mem _ hg)

@[simp] theorem Instant.made_done (j : Judgement) (x : Instant) : (x.made j).done = j :: x.done := rfl
@[simp] theorem Instant.made_opened (j : Judgement) (x : Instant) : (x.made j).opened = x.opened := rfl
@[simp] theorem Instant.made_tick (j : Judgement) (x : Instant) : (x.made j).tick = x.tick := rfl

/-- A judgement already made in the instant changes nothing. -/
theorem once_of_done {j : Judgement} {s : State} (f : State → State) (h : j ∈ s.moment.done) : s.once j f = s := by
  simp [State.once, h]

/-- A judgement not yet made is taken, and noted. -/
theorem once_of_new {j : Judgement} {s : State} (f : State → State) (h : j ∉ s.moment.done) :
    s.once j f = f { s with moment := s.moment.made j } := by
  simp [State.once, h]

/-- Taking a judgement once writes the instant besides what the judgement writes. -/
theorem agree_once {bs : List Block} {j : Judgement} {f : State → State} (hm : Block.moment ∉ bs)
    (h : ∀ s, Agree bs s (f s)) (s : State) : Agree bs s (s.once j f) := by
  unfold State.once; split
  · exact .refl _ _
  · refine Agree.trans (t := { s with moment := s.moment.made j }) ?_ (h _)
    intro b hb
    cases b <;> first | rfl | exact absurd hb hm

/-! ## Group records -/

/-- A change of a group that keeps its record keeps the Group Table. -/
theorem records_modGroup {g : Fin 8} {f : Group → Group} (s : State) (h : (f (s.group g)).record = (s.group g).record) :
    (s.modGroup g f).records = s.records := by
  apply Vector.ext
  intro i hi
  simp only [State.records, State.modGroup, Vector.getElem_map, Vector.getElem_set]
  split
  · next e => subst e; exact h
  · rfl

/-! ## The Alarm Unit and the Record Queue -/

/-- What the Alarm Unit and the Record Queue never write: their operations write their own blocks and the received
switch signals of the groups. -/
def alarmKeeps : List Block := [.pending, .inputs, .moment, .ports, .ssw, .records, .imu, .csv, .tmu, .mci]

/-- What the Record Queue never writes. -/
def queueKeeps : List Block :=
  [.pending, .inputs, .moment, .ports, .ssw, .records, .groups, .imu, .csv, .tmu, .alu, .mci]

theorem agree_of_alu {s t : State} (h : t = { s with alu := t.alu }) : Agree alarmKeeps s t := by
  intro b hb; rw [h]; cases b <;> first | rfl | (simp [alarmKeeps] at hb)

theorem agree_putAlarm (a : AlarmId) (x : Alarm) (s : State) : Agree alarmKeeps s (s.putAlarm a x) := agree_of_alu rfl

theorem agree_putSoak (a : AlarmId) (n : Nat) (s : State) : Agree alarmKeeps s (s.putSoak a n) := agree_of_alu rfl

theorem agree_judgeRelays (s : State) : Agree alarmKeeps s s.judgeRelays := agree_of_alu rfl

theorem agree_cutOff (s : State) : Agree alarmKeeps s s.cutOff := agree_of_alu rfl

theorem agree_soundBell (v : Severity) (s : State) : Agree alarmKeeps s (s.soundBell v) := by
  unfold State.soundBell; split
  · exact agree_of_alu rfl
  · exact .refl _ _

theorem agree_queueRecord (r : Report) (s : State) : Agree queueKeeps s (s.queueRecord r) := by
  intro b hb
  unfold State.queueRecord
  split <;> (cases b <;> first | rfl | (simp [queueKeeps] at hb))

theorem agree_setNews (f : News → News) (s : State) : Agree queueKeeps s (s.setNews f) := by
  intro b hb; cases b <;> first | rfl | (simp [queueKeeps] at hb)

theorem alarm_of_queue {s t : State} (h : Agree queueKeeps s t) : Agree alarmKeeps s t :=
  h.mono (by decide)

theorem agree_signalAbsent (g : Fin 8) (s : State) : Agree alarmKeeps s (s.signalAbsent g) := by
  intro b hb
  cases b <;> first | rfl | exact records_modGroup s rfl | (simp [alarmKeeps] at hb)

theorem agree_signalLost (p : Fin 8) (s : State) : Agree alarmKeeps s (s.signalLost p) :=
  agree_overAll (fun g t => Agree.ite (agree_signalAbsent g t) (.refl _ _)) s

theorem agree_flagSetHook (a : AlarmId) (x y : Bool) (s : State) : Agree alarmKeeps s (s.flagSetHook a x y) := by
  unfold State.flagSetHook
  split
  · exact Agree.ite (agree_signalLost _ _) (.refl _ _)
  · exact .refl _ _

/-- A delivery writes the Alarm Unit, the Record Queue and received switch signals only (R153). -/
theorem agree_deliverWith {push : Report → State → State} (hp : ∀ r s, Agree alarmKeeps s (push r s)) (a : AlarmId)
    (b : Bool) (v : Option Nat) (s : State) : Agree alarmKeeps s (s.deliverWith push a b v) := by
  unfold State.deliverWith
  dsimp only
  split
  · exact .refl _ _
  · have h1 : Agree alarmKeeps s ((s.putAlarm a
        (({ s.alarm a with value := v.or (s.alarm a).value } : Alarm).arrive (s.entryOf a).mode b)).flagSetHook a
        (s.alarm a).flag
        (({ s.alarm a with value := v.or (s.alarm a).value } : Alarm).arrive (s.entryOf a).mode b).flag) :=
      (agree_putAlarm _ _ _).trans (agree_flagSetHook _ _ _ _)
    have h2 : Agree alarmKeeps s (if ((({ s.alarm a with value := v.or (s.alarm a).value } : Alarm).arrive
        (s.entryOf a).mode b).state == .active && (s.alarm a).state != .active) = true then
        State.soundBell (s.entryOf a).severity ((s.putAlarm a
          (({ s.alarm a with value := v.or (s.alarm a).value } : Alarm).arrive (s.entryOf a).mode b)).flagSetHook a
          (s.alarm a).flag
          (({ s.alarm a with value := v.or (s.alarm a).value } : Alarm).arrive (s.entryOf a).mode b).flag)
        else (s.putAlarm a
          (({ s.alarm a with value := v.or (s.alarm a).value } : Alarm).arrive (s.entryOf a).mode b)).flagSetHook a
          (s.alarm a).flag
          (({ s.alarm a with value := v.or (s.alarm a).value } : Alarm).arrive (s.entryOf a).mode b).flag) :=
      Agree.ite (h1.trans (agree_soundBell _ _)) h1
    exact Agree.ite (h2.trans (hp _ _)) h2

/-- Handing a record to the queue writes the Record Queue, and QOVF (R175, R176). -/
theorem agree_push (r : Report) (s : State) : Agree alarmKeeps s (s.push r) := by
  unfold State.push
  dsimp only
  have h := alarm_of_queue (agree_queueRecord r s)
  split
  · exact h.trans (agree_deliverWith (fun r s => alarm_of_queue (agree_queueRecord r s)) _ _ _ _)
  · exact h

theorem agree_deliverValue (a : AlarmId) (b : Bool) (v : Option Nat) (s : State) :
    Agree alarmKeeps s (s.deliverValue a b v) := agree_deliverWith agree_push a b v s

theorem agree_deliver (a : AlarmId) (b : Bool) (s : State) : Agree alarmKeeps s (s.deliver a b) :=
  agree_deliverValue a b none s

theorem agree_news (f : News → News) (s : State) : Agree alarmKeeps s (s.setNews f) := alarm_of_queue (agree_setNews f s)

theorem agree_raiseSoakStep (a : AlarmId) (s : State) : Agree alarmKeeps s (s.raiseSoakStep a) := by
  unfold State.raiseSoakStep
  dsimp only
  split
  · split
    · exact ((agree_putAlarm _ _ _).trans (agree_soundBell _ _)).trans (agree_push _ _)
    · exact agree_putSoak _ _ _
  · exact .refl _ _

theorem agree_clearSoakStep (a : AlarmId) (s : State) : Agree alarmKeeps s (s.clearSoakStep a) := by
  unfold State.clearSoakStep
  dsimp only
  split
  · split
    · split
      · exact (agree_putAlarm _ _ _).trans (agree_push _ _)
      · exact (agree_putAlarm _ _ _).trans (agree_push _ _)
    · exact agree_putSoak _ _ _
  · exact .refl _ _

theorem agree_clearAlarm (a : AlarmId) (s : State) : Agree alarmKeeps s (s.clearAlarm a) := by
  unfold State.clearAlarm
  dsimp only
  split
  · exact .refl _ _
  · split
    · exact (agree_putAlarm _ _ _).trans (agree_push _ _)
    · exact Agree.ite (agree_putAlarm _ _ _) (.refl _ _)

theorem agree_reevaluate (a : AlarmId) (old : ProfileEntry) (s : State) : Agree alarmKeeps s (s.reevaluate a old) := by
  unfold State.reevaluate
  dsimp only
  split
  · exact .refl _ _
  · split
    · exact ((agree_putAlarm _ _ _).trans (agree_flagSetHook _ _ _ _)).trans (agree_push _ _)
    · exact (agree_putAlarm _ _ _).trans (agree_flagSetHook _ _ _ _)

/-- A change of the profiles in use writes the Alarm Unit, the Record Queue and received switch signals (R166). -/
theorem agree_reprofile {f : State → State} (hf : ∀ s, Agree alarmKeeps s (f s)) (s : State) :
    Agree alarmKeeps s (s.reprofile f) := by
  unfold State.reprofile
  generalize allAlarms.map (fun a => (a, s.entryOf a)) = l
  exact ((hf s).trans (agree_judgeRelays _)).trans (agree_foldl (fun t c => agree_reevaluate c.1 c.2 t) l _)

theorem agree_setPatched (p : Fin 8) (b : Bool) (s : State) : Agree alarmKeeps s (s.setPatched p b) :=
  agree_reprofile (fun _ => agree_of_alu rfl) s

theorem agree_pressStep (s : State) : Agree alarmKeeps s s.pressStep := by
  unfold State.pressStep
  dsimp only
  split
  · split
    · exact agree_of_alu rfl
    · exact agree_of_alu rfl
  · exact agree_of_alu rfl

theorem agree_warmAlarms (s : State) : Agree alarmKeeps s s.warmAlarms := by
  refine Agree.trans (agree_overAlarms (fun a t => agree_putAlarm a ((t.alarm a).warm (t.entryOf a).mode) t) s) ?_
  exact agree_of_alu rfl

theorem agree_restartQueue (k : RestartKind) (s : State) : Agree alarmKeeps s (s.restartQueue k) := by
  refine Agree.trans (t := { s with queue := .empty }) ?_ ((agree_deliver _ _ _).trans (agree_push _ _))
  intro b hb; cases b <;> first | rfl | (simp [alarmKeeps] at hb)

/-! ## The Timing Unit -/

/-- What the Timing Unit never writes. -/
def timingKeeps : List Block := [.pending, .inputs, .moment, .ports, .ssw, .records, .imu, .csv, .mci]

theorem timing_of_alarm {s t : State} (h : Agree alarmKeeps s t) : Agree timingKeeps s t := h.mono (by decide)

theorem agree_of_tmu {s t : State} (h : t = { s with tmu := t.tmu }) : Agree timingKeeps s t := by
  intro b hb; rw [h]; cases b <;> first | rfl | (simp [timingKeeps] at hb)

theorem agree_modCand (k : Fin 10) (f : Cand → Cand) (s : State) : Agree timingKeeps s (s.modCand k f) :=
  agree_of_tmu rfl

theorem agree_retime (st : TimingState) (r : Option (Fin 10)) (f : Tmu → Tmu) (s : State) :
    Agree timingKeeps s (s.retime st r f) := by
  unfold State.retime
  dsimp only
  have h : Agree timingKeeps s { s with tmu := { f s.tmu with state := st, selected := r } } := agree_of_tmu rfl
  split
  · exact h
  · exact h.trans (timing_of_alarm ((((agree_push _ _).trans (agree_news _ _)).trans (agree_deliver _ _ _)).trans
      (agree_deliver _ _ _)))

theorem agree_selectRef (k : Fin 10) (s : State) : Agree timingKeeps s (s.selectRef k) :=
  Agree.ite (.refl _ _) (agree_retime _ _ _ _)

theorem agree_toHoldover (s : State) : Agree timingKeeps s s.toHoldover := Agree.ite (.refl _ _) (agree_retime _ _ _ _)

theorem agree_applyMode (s : State) : Agree timingKeeps s s.applyMode := by
  unfold State.applyMode
  split
  · split
    · exact agree_selectRef _ _
    · exact Agree.ite (agree_toHoldover _) (.refl _ _)
  · exact Agree.ite (agree_selectRef _ _) (agree_toHoldover _)
  · exact agree_retime _ _ _ _
  · exact agree_toHoldover _

theorem agree_candLeft (k : Fin 10) (s : State) : Agree timingKeeps s (s.candLeft k) :=
  Agree.ite ((agree_modCand _ _ _).trans (agree_applyMode _)) (agree_modCand _ _ _)

theorem agree_failCand (k : Fin 10) (s : State) : Agree timingKeeps s (s.failCand k) := by
  unfold State.failCand
  split
  · exact (agree_modCand _ _ _).trans (agree_candLeft _ _)
  · exact agree_modCand _ _ _
  · exact .refl _ _
  · exact .refl _ _

theorem agree_enterWait (k : Fin 10) (s : State) : Agree timingKeeps s (s.enterWait k) :=
  Agree.ite (agree_modCand _ _ _) (agree_modCand _ _ _)

theorem agree_verdictToTiming (p : Fin 8) (b : Bool) (s : State) : Agree timingKeeps s (s.verdictToTiming p b) :=
  Agree.ite (Agree.ite (agree_failCand _ _) (Agree.ite (agree_enterWait _ _) (.refl _ _))) (.refl _ _)

theorem agree_candStep (k : Fin 10) (s : State) : Agree timingKeeps s (s.candStep k) := by
  unfold State.candStep
  dsimp only
  split
  · split
    · split
      · exact Agree.ite ((agree_modCand _ _ _).trans (agree_modCand _ _ _))
          ((agree_modCand _ _ _).trans (agree_modCand _ _ _))
      · exact Agree.ite ((agree_modCand _ _ _).trans (agree_modCand _ _ _)) (agree_modCand _ _ _)
      · exact agree_modCand _ _ _
      · exact agree_modCand _ _ _
    · split
      · exact Agree.ite (agree_modCand _ _ _) ((agree_modCand _ _ _).trans (agree_enterWait _ _))
      · exact Agree.ite ((agree_modCand _ _ _).trans (agree_modCand _ _ _)) (agree_modCand _ _ _)
      · exact Agree.ite ((agree_modCand _ _ _).trans (agree_modCand _ _ _)) (agree_modCand _ _ _)
      · exact agree_modCand _ _ _
  · exact .refl _ _

theorem agree_candTick (k : Fin 10) (s : State) : Agree timingKeeps s (s.candTick k) := by
  unfold State.candTick
  dsimp only
  split
  · exact Agree.ite (agree_modCand _ _ _) (agree_modCand _ _ _)
  · exact .refl _ _
  · exact .refl _ _
  · exact .refl _ _

theorem agree_selection (s : State) : Agree timingKeeps s s.selection := by
  unfold State.selection
  dsimp only
  refine Agree.trans (agree_overAll (f := State.judgeEligible)
    (fun k t => (agree_modCand k _ t).trans (agree_modCand k _ _)) s) ?_
  generalize overAll State.judgeEligible s = t
  exact Agree.trans (agree_of_tmu rfl) (agree_applyMode _)

theorem agree_loopSample (r : Int) (s : State) : Agree timingKeeps s (s.loopSample r) := by
  unfold State.loopSample
  dsimp only
  split
  · exact Agree.ite (Agree.ite ((agree_of_tmu rfl).trans (agree_retime _ _ _ _)) (agree_of_tmu rfl)) (agree_of_tmu rfl)
  · exact Agree.ite (Agree.ite ((agree_of_tmu rfl).trans (agree_retime _ _ _ _)) (agree_of_tmu rfl)) (agree_of_tmu rfl)
  · exact agree_of_tmu rfl
  · exact agree_of_tmu rfl

theorem agree_phaseSample (k : Fin 10) (r : Option (Int × Bool)) (s : State) :
    Agree timingKeeps s (s.phaseSample k r) := by
  unfold State.phaseSample
  dsimp only
  have h (f : Cand → Cand) (b : Bool) : Agree timingKeeps s ((s.modCand k f).deliver (refAlarm k) b) :=
    (agree_modCand _ _ _).trans (timing_of_alarm (agree_deliver _ _ _))
  split
  · split
    · split
      · exact (h _ _).trans (agree_loopSample _ _)
      · exact (h _ _).trans (agree_of_tmu rfl)
    · exact h _ _
  · exact .refl _ _

theorem agree_stationStep (i : Fin 2) (s : State) : Agree timingKeeps s (s.stationStep i) :=
  Agree.trans (agree_of_tmu rfl) (timing_of_alarm (agree_deliver _ _ _))

theorem agree_modQuality (p : Fin 8) (f : QualityFilter → QualityFilter) (s : State) :
    Agree timingKeeps s (s.modQuality p f) := agree_of_tmu rfl

/-! ## The Cable Supervisor and the Interval Measurement Unit -/

/-- What the Cable Supervisor and the Interval Measurement Unit never write. -/
def cableKeeps : List Block := [.pending, .inputs, .moment, .ports, .ssw, .records, .mci]

theorem cable_of_timing {s t : State} (h : Agree timingKeeps s t) : Agree cableKeeps s t := h.mono (by decide)

theorem cable_of_alarm {s t : State} (h : Agree alarmKeeps s t) : Agree cableKeeps s t := h.mono (by decide)

theorem agree_of_csv {s t : State} (h : t = { s with csv := t.csv, imu := t.imu, tmu := t.tmu }) :
    Agree cableKeeps s t := by
  intro b hb; rw [h]; cases b <;> first | rfl | (simp [cableKeeps] at hb)

theorem agree_modCable (p : Fin 8) (f : Cable → Cable) (s : State) : Agree cableKeeps s (s.modCable p f) :=
  agree_of_csv rfl

theorem agree_startTimer (p : Fin 8) (s : State) : Agree cableKeeps s (s.startTimer p) := by
  unfold State.startTimer
  dsimp only
  split <;> exact agree_of_csv rfl

theorem agree_requestAudit (p : Fin 8) (s : State) : Agree cableKeeps s (s.requestAudit p) :=
  Agree.ite (agree_of_csv rfl) (.refl _ _)

theorem agree_modGroup_record {g : Fin 8} {f : Group → Group} (hf : ∀ x, (f x).record = x.record) (s : State) :
    Agree cableKeeps s (s.modGroup g f) := by
  intro b hb
  cases b <;> first | rfl | exact records_modGroup s (hf _) | (simp [cableKeeps] at hb)

theorem agree_unmark (p : Fin 8) (s : State) : Agree cableKeeps s (s.unmark p) := by
  unfold State.unmark
  split
  · exact agree_modGroup_record (f := fun x => { x with markW := false }) (fun _ => rfl) s
  · exact agree_modGroup_record (f := fun x => { x with markP := false }) (fun _ => rfl) s
  · exact .refl _ _

theorem agree_mark (p : Fin 8) (s : State) : Agree cableKeeps s (s.mark p) := by
  unfold State.mark
  split
  · exact Agree.ite (agree_modGroup_record (fun x => by split <;> rfl) s) (.refl _ _)
  · exact .refl _ _

/-- A verdict change writes the Cable Supervisor, the Alarm Unit, the Timing Unit and the patch marks (R109). -/
theorem agree_setVerdict (p : Fin 8) (v : Verdict) (s : State) : Agree cableKeeps s (s.setVerdict p v) := by
  unfold State.setVerdict
  dsimp only
  have h (f : Cable → Cable) (a b c d : Bool) (o : Option Nat) :
      Agree cableKeeps s (((((s.modCable p f).deliver (.port p .tim) a).deliver (.port p .loop) b).deliverValue
        (.port p .len) c o).verdictToTiming p d) :=
    ((agree_modCable _ _ _).trans (cable_of_alarm (((agree_deliver _ _ _).trans (agree_deliver _ _ _)).trans
      (agree_deliverValue _ _ _ _)))).trans (cable_of_timing (agree_verdictToTiming _ _ _))
  exact Agree.ite ((h _ _ _ _ _ _).trans (agree_unmark _ _)) (h _ _ _ _ _ _)

theorem agree_compareTrace (p : Fin 8) (s : State) : Agree cableKeeps s (s.compareTrace p) := by
  unfold State.compareTrace
  dsimp only
  split
  · exact .refl _ _
  · split
    · exact agree_modCable _ _ _
    · split
      · exact Agree.ite ((agree_setVerdict _ _ _).trans (agree_setVerdict _ _ _))
          ((agree_setVerdict _ _ _).trans (agree_requestAudit _ _))
      · exact agree_setVerdict _ _ _

theorem agree_judgeAudit (p : Fin 8) (x : AuditResult) (s : State) : Agree cableKeeps s (s.judgeAudit p x) := by
  unfold State.judgeAudit
  dsimp only
  split
  · split
    · exact Agree.ite (agree_modCable _ _ _) (.refl _ _)
    · exact .refl _ _
  · exact Agree.ite ((agree_modCable _ _ _).trans (agree_setVerdict _ _ _)) (.refl _ _)

theorem agree_closeBurst (b : Burst) (s : State) : Agree cableKeeps s (s.closeBurst b) := by
  unfold State.closeBurst
  dsimp only
  split
  · exact Agree.trans (agree_of_csv rfl) (cable_of_alarm (agree_news _ _))
  · exact agree_of_csv rfl

theorem agree_endAudit (s : State) : Agree cableKeeps s s.endAudit := by
  unfold State.endAudit
  dsimp only
  split
  · exact .refl _ _
  · next b _ =>
    have h (f : Cable → Cable) (r : Report) :
        Agree cableKeeps s (((s.closeBurst b).endMarkers.modCable b.port f).push r) :=
      (((agree_closeBurst b s).trans (agree_of_csv rfl)).trans (agree_modCable _ _ _)).trans
        (cable_of_alarm (agree_push _ _))
    split
    · exact (((h _ _).trans (agree_modCable _ _ _)).trans (agree_judgeAudit _ _ _)).trans (agree_startTimer _ _)
    · split
      · exact (((h _ _).trans (agree_modCable _ _ _)).trans (agree_modCable _ _ _)).trans
          (cable_of_alarm (agree_deliver _ _ _))
      · exact ((h _ _).trans (agree_modCable _ _ _)).trans (agree_startTimer _ _)

theorem agree_endIfResolved (s : State) : Agree cableKeeps s s.endIfResolved := by
  unfold State.endIfResolved
  split
  · exact .refl _ _
  · exact Agree.ite (agree_endAudit _) (.refl _ _)

theorem agree_resolveSlot (f : SampleSlot → SampleSlot) (s : State) : Agree cableKeeps s (s.resolveSlot f) := by
  unfold State.resolveSlot
  split
  · exact .refl _ _
  · exact Agree.trans (agree_of_csv rfl) (agree_endIfResolved _)

theorem agree_acceptTrace (p : Fin 8) (s : State) : Agree cableKeeps s (s.acceptTrace p) := by
  unfold State.acceptTrace
  dsimp only
  exact Agree.ite ((agree_modCable _ _ _).trans (agree_compareTrace _ _)) (.refl _ _)

theorem agree_traceIn (p : Fin 8) (i : BitVec 4) (c : Byte) (s : State) : Agree cableKeeps s (s.traceIn p i c) := by
  unfold State.traceIn
  dsimp only
  split
  · exact Agree.ite ((agree_modCable _ _ _).trans (agree_acceptTrace _ _)) (agree_modCable _ _ _)
  · exact agree_modCable _ _ _

theorem agree_traceGap (p : Fin 8) (s : State) : Agree cableKeeps s (s.traceGap p) := agree_modCable _ _ _

theorem agree_cableOutOfSync (p : Fin 8) (s : State) : Agree cableKeeps s (s.cableOutOfSync p) := by
  unfold State.cableOutOfSync
  dsimp only
  have h : Agree cableKeeps s ((s.traceGap p).modCable p fun c => { c with accepted := none, captures := [] }) :=
    (agree_traceGap _ _).trans (agree_modCable _ _ _)
  have h2 := Agree.ite (c := (State.cable ((s.traceGap p).modCable p fun c =>
    { c with accepted := none, captures := [] }) p).verdict = .patching)
    (h.trans (agree_modCable p (fun c => { c with pendingVerdict := none }) _))
    (h.trans (agree_setVerdict p .unverified _))
  exact Agree.ite (h2.trans (agree_endAudit _)) h2

theorem agree_takeAudits (es : List AuditEntry) (s : State) : Agree cableKeeps s (takeAudits es s) := by
  induction es generalizing s with
  | nil => exact .refl _ _
  | cons e es ih =>
    unfold takeAudits
    dsimp only
    split
    · exact agree_of_csv rfl
    · exact ((agree_of_csv (s := s) (t := { s with csv := { s.csv with audits := es } }) rfl).trans
        (agree_startTimer _ _)).trans (ih _)

theorem agree_auditStartStep (s : State) : Agree cableKeeps s s.auditStartStep :=
  Agree.ite (agree_takeAudits _ _) (.refl _ _)

theorem agree_echoTimeoutStep (s : State) : Agree cableKeeps s s.echoTimeoutStep := by
  unfold State.echoTimeoutStep
  dsimp only
  split
  · exact .refl _ _
  · exact Agree.ite (agree_resolveSlot _ _) (.refl _ _)

theorem agree_drawStep (s : State) : Agree cableKeeps s s.drawStep := by
  unfold State.drawStep
  split
  · exact .refl _ _
  · dsimp only; exact Agree.ite (agree_of_csv rfl) (.refl _ _)

theorem agree_departStep (s : State) : Agree cableKeeps s s.departStep := by
  unfold State.departStep
  dsimp only
  split
  · exact .refl _ _
  · split
    · exact (agree_of_csv rfl).trans (agree_modCable _ _ _)
    · exact agree_of_csv rfl

theorem agree_echoStep (p : Fin 8) (s : State) : Agree cableKeeps s (s.echoStep p) := by
  unfold State.echoStep
  split
  · exact .refl _ _
  · exact Agree.ite (agree_modCable _ _ _) (.refl _ _)

theorem agree_markerIn (p : Fin 8) (x : Stamp) (v : Option (Fin 4)) (s : State) :
    Agree cableKeeps s (s.markerIn p x v) := Agree.ite (.refl _ _) (agree_modCable _ _ _)

theorem agree_stampToEcho (v : Fin 4) (x : Stamp) (s : State) : Agree cableKeeps s (s.stampToEcho v x) :=
  agree_overAll (fun p t => agree_modCable p _ t) s

theorem agree_clearSuspension (p : Fin 8) (s : State) : Agree cableKeeps s (s.clearSuspension p) :=
  Agree.ite (((agree_modCable _ _ _).trans (cable_of_alarm (agree_deliver _ _ _))).trans (agree_requestAudit _ _))
    (agree_modCable _ _ _)

theorem agree_openWindow (p : Fin 8) (n : Nat) (o : Bool) (s : State) : Agree cableKeeps s (s.openWindow p n o) := by
  unfold State.openWindow
  dsimp only
  refine Agree.trans ?_ (cable_of_alarm (agree_push _ _))
  refine Agree.trans ?_ (agree_modCable _ _ _)
  refine Agree.trans ?_ (cable_of_alarm (agree_setPatched _ _ _))
  refine Agree.trans ?_ (agree_mark _ _)
  exact (agree_modCable _ _ _).trans (agree_setVerdict _ _ _)

theorem agree_closeWindow (p : Fin 8) (c : PatchCause) (s : State) : Agree cableKeeps s (s.closeWindow p c) := by
  unfold State.closeWindow
  dsimp only
  refine Agree.trans ?_ (cable_of_alarm (agree_push _ _))
  refine Agree.trans ?_ (agree_startTimer _ _)
  refine Agree.trans ?_ (agree_requestAudit _ _)
  refine Agree.trans ?_ (cable_of_alarm (agree_setPatched _ _ _))
  refine Agree.trans ?_ (agree_modCable _ _ _)
  exact (agree_modCable _ _ _).trans (agree_setVerdict _ _ _)

theorem agree_periodicTick (p : Fin 8) (s : State) : Agree cableKeeps s (s.periodicTick p) := by
  unfold State.periodicTick
  split
  · exact .refl _ _
  · split
    · split
      · exact Agree.ite ((agree_modCable _ _ _).trans (agree_requestAudit _ _)) (agree_startTimer _ _)
      · exact agree_modCable _ _ _
      · exact agree_modCable _ _ _
      · exact agree_modCable _ _ _
    · exact agree_modCable _ _ _

theorem agree_windowTick (p : Fin 8) (s : State) : Agree cableKeeps s (s.windowTick p) := by
  unfold State.windowTick
  split
  · exact .refl _ _
  · exact Agree.ite (agree_closeWindow _ _ _) (agree_modCable _ _ _)

/-! ## Time -/

theorem agree_beginTurn (v : Fin 4) (s : State) : Agree cableKeeps s (s.beginTurn v) := by
  unfold State.beginTurn
  split
  · exact agree_of_csv rfl
  · exact agree_of_csv rfl

theorem agree_requestRound (s : State) : Agree cableKeeps s s.requestRound :=
  Agree.ite (agree_beginTurn _ _) (agree_of_csv rfl)

theorem agree_judgeCal (s : State) : Agree cableKeeps s s.judgeCal :=
  Agree.trans (agree_of_csv rfl) (cable_of_alarm (agree_deliver _ _ _))

theorem agree_nextTurn (v : Fin 4) (s : State) : Agree cableKeeps s (s.nextTurn v) := by
  unfold State.nextTurn
  dsimp only
  split
  · exact Agree.ite (Agree.trans (agree_of_csv rfl) (agree_beginTurn _ _)) (agree_of_csv rfl)
  · exact agree_beginTurn _ _

theorem agree_endTurn (v : Fin 4) (n : Nat) (s : State) : Agree cableKeeps s (s.endTurn v n) := by
  have h : Agree cableKeeps s (s.modVernier v (Vernier.judged n)) := agree_of_csv rfl
  exact ((Agree.ite (c := validCal n = true) h (h.trans (cable_of_alarm (agree_news _ _)))).trans
    (agree_judgeCal _)).trans (agree_nextTurn _ _)

theorem agree_stampToCandidate (k : Option (Fin 10)) (x : Stamp) (s : State) :
    Agree cableKeeps s (s.stampToCandidate k x) := by
  unfold State.stampToCandidate
  split
  · exact cable_of_timing (agree_phaseSample _ _ _)
  · exact .refl _ _

theorem agree_echoReport (x : Stamp) (ta : BitVec 24) (s : State) : Agree cableKeeps s (s.echoReport x ta) := by
  unfold State.echoReport
  split
  · exact .refl _ _
  · exact agree_resolveSlot _ _

theorem agree_stampToAudit (ta : Option (BitVec 24)) (x : Stamp) (s : State) :
    Agree cableKeeps s (s.stampToAudit ta x) := by
  unfold State.stampToAudit
  split
  · exact Agree.ite (agree_echoReport _ _ _) (.refl _ _)
  · exact .refl _ _

theorem agree_complete (v : Fin 4) (s : State) : Agree cableKeeps s (s.complete v) := by
  unfold State.complete
  dsimp only
  split
  · next c _ =>
    have h : Agree cableKeeps s ((s.advanceClock c.due).modVernier v fun x => { x with state := .free }) :=
      agree_of_csv rfl
    split
    · exact (((Agree.ite (h.trans (agree_beginTurn _ _)) h).trans (agree_stampToCandidate _ _ _)).trans
        (agree_stampToAudit _ _ _)).trans (agree_stampToEcho _ _ _)
    · exact ((h.trans (agree_stampToCandidate _ _ _)).trans (agree_stampToAudit _ _ _)).trans (agree_stampToEcho _ _ _)
  · exact .refl _ _
  · exact .refl _ _
  · exact .refl _ _

theorem agree_completeUpTo (n t : Nat) (s : State) : Agree cableKeeps s (completeUpTo n t s) := by
  induction n generalizing s with
  | zero => exact .refl _ _
  | succ n ih =>
    unfold completeUpTo
    split
    · exact (agree_complete _ _).trans (ih _)
    · exact .refl _ _

theorem agree_missSample (k : Fin 10) (s : State) : Agree cableKeeps s (s.missSample k) :=
  Agree.ite (cable_of_timing (agree_phaseSample _ _ _)) (.refl _ _)

/-- The passing of time writes the measurement unit, the Timing Unit, the Cable Supervisor and what they deliver to. -/
theorem agree_settle (t : Nat) (s : State) : Agree cableKeeps s (s.settle t) := by
  unfold State.settle
  dsimp only
  exact (Agree.ite ((agree_completeUpTo _ _ _).trans (agree_overAll agree_missSample _))
    (agree_completeUpTo _ _ _)).trans (agree_completeUpTo _ _ _)

theorem agree_advanceTo (t : Nat) (s : State) : Agree cableKeeps s (s.advanceTo t) :=
  (agree_settle t s).trans (agree_of_csv rfl)

theorem agree_stampCompleteStep (v : Fin 4) (s : State) : Agree cableKeeps s (s.stampCompleteStep v) := by
  unfold State.stampCompleteStep
  split
  · exact Agree.ite (agree_advanceTo _ _) (.refl _ _)
  · exact .refl _ _

theorem agree_missingStep (k : Fin 10) (s : State) : Agree cableKeeps s (s.missingStep k) :=
  Agree.ite ((agree_advanceTo _ _).trans (agree_missSample _ _)) (.refl _ _)

theorem agree_turnEndStep (r : Vector Nat 64) (s : State) : Agree cableKeeps s (s.turnEndStep r) := by
  unfold State.turnEndStep
  split
  · exact Agree.ite ((agree_advanceTo _ _).trans (agree_endTurn _ _ _)) (.refl _ _)
  · exact .refl _ _

/-- What a pulse of a station input never writes (R134, R135). -/
theorem agree_stampArrival (tap : BitVec 6) (k : Option (Fin 10)) (s : State) :
    Agree cableKeeps s (s.stampArrival tap k).2 := by
  unfold State.stampArrival
  dsimp only
  have h : Agree cableKeeps s (match k with
      | some k => s.modCand k fun c => { c with claim := false }
      | none => s) := by
    split
    · exact cable_of_timing (agree_modCand _ _ _)
    · exact .refl _ _
  split
  · exact h.trans (agree_of_csv rfl)
  · exact h.trans (Agree.trans (agree_of_csv rfl) (agree_stampToCandidate _ _ _))

theorem agree_stationPulse (i : Fin 2) (n : Nat) (a : Arrival) (s : State) : Agree cableKeeps s (s.stationPulse i n a) := by
  unfold State.stationPulse
  dsimp only
  have h := (agree_advanceTo (s.latchClock a) s).trans
    (agree_of_csv (t := State.modStation i (StationInput.pulse n) (s.advanceTo (s.latchClock a))) rfl)
  exact Agree.ite (h.trans (agree_stampArrival _ _ _)) h

theorem agree_pulseBy (t : Nat) (i : Fin 2) (s : State) : Agree cableKeeps s (s.pulseBy t i) :=
  Agree.ite (agree_stationPulse _ _ _ _) (.refl _ _)

theorem agree_pulsesUpTo (t : Nat) (s : State) : Agree cableKeeps s (s.pulsesUpTo t) :=
  Agree.ite ((agree_pulseBy _ _ _).trans (agree_pulseBy _ _ _)) ((agree_pulseBy _ _ _).trans (agree_pulseBy _ _ _))

/-! ## The local frame start -/

/-- What the opening of a local frame start's instant never writes. -/
def openKeeps : List Block := [.pending, .inputs, .ports, .ssw, .records, .mci]

theorem open_of_cable {s t : State} (h : Agree cableKeeps s t) : Agree openKeeps s t := h.mono (by decide)

/-- Opening the coming local frame start's instant leaves the ports, the Slot Switch, the Group Table and the management
channel as they were. -/
theorem agree_openFrame (s : State) : Agree openKeeps s s.openFrame := by
  unfold State.openFrame
  dsimp only
  split
  · exact .refl _ _
  · refine (open_of_cable (agree_advanceTo s.tmu.nextStart s)).trans ?_
    intro b hb
    unfold State.latchMarks
    dsimp only
    split <;> (cases b <;> first | rfl | (simp [openKeeps] at hb))

/-- Reaching the coming local frame start leaves the same blocks as they were. -/
theorem agree_reachFrame (s : State) : Agree openKeeps s s.reachFrame :=
  (open_of_cable (agree_pulsesUpTo _ _)).trans (agree_openFrame _)

@[simp] theorem openFrame_pending (s : State) : s.openFrame.pending = s.pending := (agree_openFrame s) .pending (by decide)

@[simp] theorem openFrame_inputs (s : State) : s.openFrame.inputs = s.inputs := (agree_openFrame s) .inputs (by decide)

@[simp] theorem openFrame_ports (s : State) : s.openFrame.ports = s.ports := (agree_openFrame s) .ports (by decide)

@[simp] theorem openFrame_ssw (s : State) : s.openFrame.ssw = s.ssw := (agree_openFrame s) .ssw (by decide)

@[simp] theorem openFrame_mci (s : State) : s.openFrame.mci = s.mci := (agree_openFrame s) .mci (by decide)

@[simp] theorem openFrame_port (s : State) (p : Fin 8) : s.openFrame.port p = s.port p := by simp [State.port]

/-- A frame whose instant is open stays as it is. -/
theorem openFrame_opened {s : State} (h : s.moment.opened = true) : s.openFrame = s := by
  unfold State.openFrame; simp [h]

/-- The instant is open after it has been opened. -/
@[simp] theorem openFrame_is_open (s : State) : s.openFrame.moment.opened = true := by
  unfold State.openFrame
  dsimp only
  split
  · assumption
  · unfold State.latchMarks
    dsimp only
    split <;> rfl

/-- What the evaluation of a group never writes. -/
def groupKeeps : List Block := [.pending, .inputs, .moment, .ports, .ssw, .imu, .csv, .tmu]

theorem group_of_alarm {s t : State} (h : Agree alarmKeeps s t) : Agree groupKeeps s t := h.mono (by decide)

theorem agree_of_groups {s t : State} (h : t = { s with groups := t.groups, mci := t.mci }) : Agree groupKeeps s t := by
  intro b hb; rw [h]; cases b <;> first | rfl | (simp [groupKeeps] at hb)

/-- Taking the source port writes the receive state and nothing else (R184, R186). -/
theorem agree_takeSource (b : Bool) (s : State) :
    Agree [.pending, .inputs, .moment, .ports, .ssw, .groups, .imu, .csv, .tmu, .alu, .queue] s (s.takeSource b) := by
  unfold State.takeSource
  dsimp only
  split <;> exact fun x hx => by cases x <;> first | rfl | simp at hx

/-- The choice of the source port writes the source port and nothing else. -/
theorem agree_chooseSource (s : State) :
    Agree [.pending, .inputs, .moment, .ports, .ssw, .groups, .imu, .csv, .tmu, .alu, .queue] s s.chooseSource := by
  intro x hx; cases x <;> first | rfl | simp at hx

theorem agree_reportSelector (g : Fin 8) (b : Bool) (s : State) : Agree groupKeeps s (s.reportSelector g b) := by
  unfold State.reportSelector
  dsimp only
  have h (f : Group → Group) : Agree groupKeeps s (s.modGroup g f) := agree_of_groups rfl
  have source {v : State} (m : Bool) (k : Agree groupKeeps s v) :
      Agree groupKeeps s (if g = v.mci.group then v.takeSource m else v) :=
    Agree.ite (k.trans ((agree_takeSource m v).mono (by decide))) k
  exact source _ (Agree.ite (((h _).trans (group_of_alarm (agree_push _ _))).trans (group_of_alarm (agree_news _ _)))
    (h _))

/-- The evaluation of a group writes the group, the Alarm Unit, the Record Queue and the receive state (R59, R61). -/
theorem agree_groupStep (g : Fin 8) (b : Bool) (s : State) : Agree groupKeeps s (s.groupStep g b) := by
  unfold State.groupStep
  dsimp only
  exact ((((agree_of_groups rfl).trans (group_of_alarm (agree_deliver _ _ _))).trans (agree_reportSelector _ _ _)).trans
    (agree_of_groups rfl)).trans (group_of_alarm (agree_deliver _ _ _))

/-- Taking the evaluation of a group in its instant writes the instant too (R195). -/
theorem agree_groupTurn (g : Fin 8) (s : State) :
    Agree [.pending, .inputs, .ports, .ssw, .imu, .csv, .tmu] s (s.groupTurn g) := by
  unfold State.groupTurn
  dsimp only
  refine Agree.ite (.refl _ _) (Agree.trans (t := { s with moment := _ }) ?_ ((agree_groupStep _ _ _).mono (by decide)))
  intro b hb; cases b <;> first | rfl | (simp at hb)

theorem agree_resetGroup (g : Fin 8) (r : GroupRecord) (s : State) : Agree groupKeeps s (s.resetGroup g r) :=
  (agree_of_groups rfl).trans (group_of_alarm (agree_deliver _ _ _))

end Sys2Proof.Machine
end

