-- ==== Sys2Proof/Laws/Deliver.lean ====
section
/-! SUPPORT. What a delivery and a record do to the alarm cells, said once. -/

namespace Sys2Proof.Machine

open Sys2Proof

@[simp] theorem alarm_queueRecord (a : AlarmId) (r : Report) (s : State) : (s.queueRecord r).alarm a = s.alarm a := by
  unfold State.queueRecord; split <;> rfl

@[simp] theorem alarm_setNews (a : AlarmId) (f : News → News) (s : State) : (s.setNews f).alarm a = s.alarm a := rfl

@[simp] theorem alarm_soundBell (a : AlarmId) (v : Severity) (s : State) : (s.soundBell v).alarm a = s.alarm a := by
  unfold State.soundBell; split <;> rfl

@[simp] theorem alu_signalAbsent (g : Fin 8) (s : State) : (s.signalAbsent g).alu = s.alu := rfl

theorem foldl_field {α β : Type} {f : State → α → State} {proj : State → β} (h : ∀ s a, proj (f s a) = proj s)
    (l : List α) (s : State) : proj (l.foldl f s) = proj s := by
  induction l generalizing s with
  | nil => rfl
  | cons a l ih => exact (ih _).trans (h s a)

theorem overAll_field {n : Nat} {β : Type} {f : Fin n → State → State} {proj : State → β}
    (h : ∀ i s, proj (f i s) = proj s) (s : State) : proj (overAll f s) = proj s :=
  foldl_field (f := fun t i => f i t) (fun s a => h a s) _ s

@[simp] theorem alu_signalLost (p : Fin 8) (s : State) : (s.signalLost p).alu = s.alu :=
  overAll_field (proj := State.alu) (fun g t => by split <;> rfl) s

@[simp] theorem alu_flagSetHook (a : AlarmId) (x y : Bool) (s : State) : (s.flagSetHook a x y).alu = s.alu := by
  unfold State.flagSetHook; split
  · split <;> simp
  · rfl

@[simp] theorem alarm_flagSetHook (a c : AlarmId) (x y : Bool) (s : State) :
    (s.flagSetHook a x y).alarm c = s.alarm c := by
  simp [State.alarm]

/-- A presence that is there already changes nothing (R153). -/
theorem deliverWith_same (push : Report → State → State) {a : AlarmId} {b : Bool} (v : Option Nat) {s : State}
    (h : (s.alarm a).present = b) : s.deliverWith push a b v = s := by
  unfold State.deliverWith; simp [h]

theorem deliver_same {a : AlarmId} {b : Bool} {s : State} (h : (s.alarm a).present = b) : s.deliver a b = s :=
  deliverWith_same _ _ h

@[simp] theorem arrive_present (m : Mode) (b : Bool) (x : Alarm) : (x.arrive m b).present = b := by
  unfold Alarm.arrive; dsimp only; split <;> rfl

/-- A delivery whose `push` leaves a cell alone gives its own cell the arrival, and leaves any other cell alone. -/
theorem alarm_deliverWith {push : Report → State → State} {c : AlarmId}
    (hp : ∀ r s, (push r s).alarm c = s.alarm c) (a : AlarmId) (b : Bool) (v : Option Nat) (s : State) :
    (s.deliverWith push a b v).alarm c =
      if c = a ∧ (s.alarm a).present ≠ b then
        ({ s.alarm a with value := v.or (s.alarm a).value } : Alarm).arrive (s.entryOf a).mode b
      else s.alarm c := by
  unfold State.deliverWith
  dsimp only
  by_cases h : (s.alarm a).present = b
  · simp [h]
  · simp only [h, if_false, ne_eq, not_false_eq_true, and_true]
    have key : ∀ t : State, t.alarm c = ((s.putAlarm a
        (({ s.alarm a with value := v.or (s.alarm a).value } : Alarm).arrive (s.entryOf a).mode b)).flagSetHook a
        (s.alarm a).flag
        (({ s.alarm a with value := v.or (s.alarm a).value } : Alarm).arrive (s.entryOf a).mode b).flag).alarm c →
        t.alarm c = if c = a then
          ({ s.alarm a with value := v.or (s.alarm a).value } : Alarm).arrive (s.entryOf a).mode b else s.alarm c := by
      intro t ht
      rw [ht, alarm_flagSetHook]
      by_cases hc : c = a
      · subst hc; simp
      · rw [if_neg hc, State.alarm_putAlarm_other _ (Ne.symm hc)]
    split
    · rw [hp]; apply key; split <;> simp
    · apply key; split <;> simp

/-- Handing over a record leaves every cell but QOVF alone (R176). -/
theorem alarm_push {c : AlarmId} (hc : c ≠ .qovf) (r : Report) (s : State) : (s.push r).alarm c = s.alarm c := by
  unfold State.push
  dsimp only
  split
  · rw [alarm_deliverWith (fun r s => alarm_queueRecord c r s)]; simp [hc]
  · simp

/-- Handing over a record never ends the presence of a cell (R176). -/
theorem present_push (c : AlarmId) (r : Report) (s : State) (h : (s.alarm c).present = true) :
    ((s.push r).alarm c).present = true := by
  unfold State.push
  dsimp only
  split
  · rw [alarm_deliverWith (fun r s => alarm_queueRecord c r s)]
    split
    · simp
    · simpa using h
  · simpa using h

/-- A delivery of any cell but QOVF: its own cell takes the arrival, the others stay (R153). -/
theorem alarm_deliverValue {c : AlarmId} (hc : c ≠ .qovf) (a : AlarmId) (b : Bool) (v : Option Nat) (s : State) :
    (s.deliverValue a b v).alarm c =
      if c = a ∧ (s.alarm a).present ≠ b then
        ({ s.alarm a with value := v.or (s.alarm a).value } : Alarm).arrive (s.entryOf a).mode b
      else s.alarm c :=
  alarm_deliverWith (fun r s => alarm_push hc r s) a b v s

/-- A delivery leaves every other cell but QOVF alone. -/
theorem alarm_deliver_other {a c : AlarmId} (hc : c ≠ .qovf) (h : c ≠ a) (b : Bool) (s : State) :
    (s.deliver a b).alarm c = s.alarm c := by
  unfold State.deliver; rw [alarm_deliverValue hc]; simp [h]

/-- What is delivered is present as delivered (R153). -/
theorem present_deliverWith {push : Report → State → State}
    (hp : ∀ c r s, (s.alarm c).present = true → ((push r s).alarm c).present = true) (a : AlarmId) (b : Bool)
    (v : Option Nat) (s : State) : ((s.deliverWith push a b v).alarm a).present = b := by
  unfold State.deliverWith
  dsimp only
  by_cases h : (s.alarm a).present = b
  · simp [h]
  · simp only [h, if_false]
    split
    · next hs =>
      have hb : b = true := by
        cases b
        · exfalso
          simp only [Bool.and_eq_true, beq_iff_eq] at hs
          obtain ⟨h1, h2⟩ := hs
          revert h2
          unfold Alarm.arrive
          dsimp only
          split <;> simp_all
        · rfl
      subst hb
      apply hp
      split <;> simp
    · split <;> simp

@[simp] theorem present_deliverValue (a : AlarmId) (b : Bool) (v : Option Nat) (s : State) :
    ((s.deliverValue a b v).alarm a).present = b := present_deliverWith (fun c r s => present_push c r s) a b v s

@[simp] theorem present_deliver (a : AlarmId) (b : Bool) (s : State) : ((s.deliver a b).alarm a).present = b :=
  present_deliverValue a b none s

end Sys2Proof.Machine
end

