-- ==== Sys2Proof/Laws/Formats.lean ====
section
/-! SUPPORT. The bytes of numbers, optional and signed values, as Section 11 orders them: each operation that writes a
field of an entry, in the one form of a number's bytes from the highest down. -/

namespace Sys2Proof.Machine

open Sys2Proof

/-- The bytes of a number, from the highest down (Section 11). -/
theorem bytesOf_eq_range (n v : Nat) :
    bytesOf n v = (List.range n).map fun j => BitVec.ofNat 8 (v / 256 ^ (n - 1 - j)) := by
  induction n with
  | zero => rfl
  | succ k ih =>
    rw [bytesOf, ih, List.range_succ_eq_map, List.map_cons, List.map_map]
    congr 1
    refine List.map_congr_left fun j _ => ?_
    simp only [Function.comp, Nat.succ_eq_add_one]
    congr 3
    omega

@[simp] theorem bytesOf_length (n v : Nat) : (bytesOf n v).length = n := by simp [bytesOf_eq_range]

/-- An optional number of up to three bytes: all ones when absent (R199). -/
theorem optBytes_eq_bytesOf {n : Nat} (h : n ≤ 3) (v : Option Nat) :
    optBytes n v = bytesOf n (v.getD (256 ^ n - 1)) := by
  cases v with
  | some x => rfl
  | none => interval_cases n <;> decide

/-- An optional signed number of one to three bytes: the most negative value when absent (R199). -/
theorem optSigned_eq_bytesOf {n : Nat} (h : n ≤ 3) (h1 : 1 ≤ n) (v : Option Int) :
    optSigned n v = bytesOf n (match v with
      | some x => (x % (256 ^ n : Nat)).toNat
      | none => 128 * 256 ^ (n - 1)) := by
  cases v with
  | some x => rfl
  | none => interval_cases n <;> decide

end Sys2Proof.Machine
end

