-- ==== Sys2Proof/Tests/Slice0.lean ====
section
/-! SUPPORT. The model's own tests: ill-formed commands, the spec's worked examples, one step of each kind of command,
and for each obligation with hypotheses a concrete state that meets them, clause by clause. -/

namespace Sys2Proof.Tests

set_option Elab.async false

open Sys2Proof Sys2Proof.Machine

/-! ## Ill-formed commands -/

theorem test_wf_pulse :
    wellFormed (.stationPulse 0 { edges := 256, arrival := { clk := 4098, tap := 0 } }) = false := by decide
theorem test_wf_frame_arrival : wellFormed (.frameReceivedInSync 0 { clk := 4098, tap := 0 } frameOfOnes) = false := by
  decide
theorem test_wf_inputs :
    wellFormed (.localFrameStart { Inputs.frameNone with written := Vector.replicate 8 1457 }) = false := by decide
theorem test_wf_written : wellFormed (.firstRead 0 1457) = false := by decide
theorem test_wf_readings : wellFormed (.calibrationTurnEnd (Vector.replicate 64 65)) = false := by decide
theorem test_wf_message_short : wellFormed (.commandMessage [0xA5, 3, 1, 2]) = false := by decide
theorem test_wf_message_length : wellFormed (.commandMessage [0xA5, 4, 1, 2, 3, 0, 0]) = false := by decide
theorem test_wf_entries : ([.write 0 0 0, .writePort 0 0, .writeGroup 0 0, .writeMap 0 0, .writeCable 0 0,
    .writeReference 0 0, .writeTiming 0 0, .writeProfile 0 0, .writeAssign 0 0, .writeUnit 0 0] :
    List (List Byte → Instr)).all (fun i => wellFormed (i (List.replicate 56 0)) == false) = true := by decide
theorem test_wf_ok : wellFormed (.commandMessage [0xA5, 3, 1, 2, 3, 0, 0]) = true := by decide

/-! ## The decoder: no row has bits (log entry 31) -/

theorem test_no_word_spells_a_command : decodeTableWord 8 0 = none := by decide
theorem test_with_fetch_word : State.reset.withFetchWord 8 0 = State.reset := by rfl

/-! ## The spec's worked examples -/

/-- 11.3: the check of the CRC. -/
theorem test_crc : crc [0x31, 0x32, 0x33, 0x34, 0x35, 0x36, 0x37, 0x38, 0x39] = 0x29B1 := by decide +kernel

/-- 6.5, The First Draws at Station 3. -/
theorem test_dither_register : (Csv.cold 3).dither = 0x5A03 := by decide
theorem test_dither_draws :
    (List.range 8).map (fun n => ((Nat.repeat ditherNext (n + 1) 0x5A03).setWidth 4).toNat) = [1, 0, 0, 0, 0, 8, 4, 2] := by
  decide +kernel

/-- 5.5, Stamps and a Wrap. -/
theorem test_stamp_clamped : (Stamp.fine 9000000 35 30).correction = 256 := by decide
theorem test_interval_wraps : interval (.exact 16776000) (.fine 4784 0 30) = 1536000 := by decide
theorem test_interval_coarse : interval (.exact 16776000) (.coarse 4784) = 1535872 := by decide

/-- 5.6, One Delay Sample. -/
theorem test_turnaround : interval (.fine 2000000 40 52) (.exact 2005984) = 1532101 := by decide
theorem test_round_trip : interval (.exact 1000000) (.fine 1006000 17 50) = 1535913 := by decide
theorem test_delay : (delaySample 1535913 1532101 122 false false).delay = 1845 := by decide
theorem test_delay_coarse : (delaySample 1535872 1532101 122 true false).delay = 1825 := by decide
theorem test_delay_assumed : (delaySample 1535913 1532200 122 false true).delay = 1796 := by decide
theorem test_delay_implausible :
    delaySample 1535913 1536100 122 false false =
      { rt := 1535913, ta := 1536100, delay := 0, coarse := false, assumed := false, implausible := true } := by decide

/-- 5.7, A Burst of Four. -/
def burstOfFour (limit : Nat) (slots : List SampleSlot) : Burst :=
  { port := 5, adHoc := true, ofs := 122, defaultTa := none, spreadLimit := limit, slots := slots }
def sampleOf (d : Nat) (coarse : Bool) : SampleSlot :=
  .present { rt := 0, ta := 0, delay := d, coarse := coarse, assumed := false, implausible := false }
theorem test_burst_completed :
    let r := (burstOfFour 0 [sampleOf 1845 false, sampleOf 1847 true, .missing, sampleOf 1844 false]).reduce
    r.completed = true ∧ r.delay = some 1845 ∧ r.spread = some 3 ∧ r.coarse = true ∧ r.unstable = false := by decide
theorem test_burst_unstable :
    (burstOfFour 2 [sampleOf 1845 false, sampleOf 1847 true, .missing, sampleOf 1844 false]).reduce.unstable = true := by
  decide
theorem test_burst_cut_short :
    let r := (burstOfFour 0 [sampleOf 1845 false, sampleOf 1847 true, .missing, .missing]).reduce
    r.delay = some 1846 ∧ r.spread = some 2 := by decide
theorem test_burst_failed :
    (burstOfFour 0 [sampleOf 1845 false, .missing, .missing, .missing]).reduce.completed = false := by decide

/-- 7.7, The Tracking Loop. -/
theorem test_loop : loopUpdate TimingSettings.cold 640 100 = (105, 185) := by decide
theorem test_loop_negative : loopUpdate TimingSettings.cold (-100) 105 = (104, 91) := by decide
theorem test_loop_wrap : loopUpdate TimingSettings.cold (wrapPhase (10000 - 1040000)) 0 = (145, 2047) := by decide
theorem test_loop_saturates : loopUpdate TimingSettings.cold 2000 2040 = (2047, 2047) := by decide
theorem test_frame_length : frameLength (65400 + 185) = (49, 4097) := by decide
theorem test_frame_length_negative : frameLength (-1) = (65535, 4095) := by decide
theorem test_frame_length_edge : frameLength 65535 = (65535, 4096) := by decide

/-- 10.9: a cold restart is the state right after reset. -/
theorem test_cold_restart_is_reset :
    (State.blank [] State.reset.inputs (Vector.replicate 8 false)).coldRestart = State.reset := by decide +kernel

/-! ## One step of the commands -/

/-- The state after a command. -/
def after (i : Instr) (s : State) : State :=
  match exec i s with
  | .next t => t
  | .fault f => nomatch f
  | .refused _ => s

/-- The part right after reset, with the default groups and map of DEFMAP. -/
def mapped : State := State.blank [] { State.reset.inputs with straps := { station := 3, mg := 0, defmap := true } }
  (Vector.replicate 8 true)

/-- Port `p` in SYNC with light, changed by `f`. -/
def synced (p : Fin 8) (f : Port → Port) (s : State) : State :=
  s.modPort p fun x => f { x with align := .sync, sd := true, los := false }

/-- The coming local frame start is a one-second tick. -/
def ticking (s : State) : State :=
  { s with tmu := { s.tmu with started := true, frameCount := 7999, frameNo := 8000 } }

/-- The running local frame ends at clock `n`. -/
def ending (n : Nat) (s : State) : State := { s with tmu := { s.tmu with nextStart := n } }

/-- A frame with a right alignment word and every other byte FF hex. -/
def rightFrame : LineFrame := { frameOfOnes with overhead := (frameOfOnes.overhead.set 0 0x3D).set 1 0xC2 }

theorem test_find : ((after (.find 0 0x3DC2 5) mapped).port 0).align = .confirm := by decide +kernel
theorem test_find_no_word : after (.find 0 0x3DC3 5) mapped = mapped := by decide +kernel
theorem test_confirm_enters_sync :
    ((after (.confirmWord 0 0x3DC2) (after (.confirmWord 0 0x3DC2) (after (.find 0 0x3DC2 5) mapped))).port 0).align =
      .sync := by decide +kernel
theorem test_confirm_miss_resumes :
    ((after (.confirmWord 0 0) (after (.find 0 0x3DC2 5) mapped)).port 0).searchFrom = 6 := by decide +kernel
theorem test_los_holds_hunt :
    let t := after (.signalDetectLow 1) (synced 1 id mapped)
    (t.port 1).los = true ∧ (t.port 1).align = .hunt ∧ (t.alarm (.port 1 .los)).present = true := by decide +kernel
theorem test_debounce_needs_eight :
    let s := mapped.modPort 1 fun x => { x with los := true, losCount := 6 }
    after (.losDebounceEnd 1) s = s := by decide +kernel
theorem test_frame_parity_error :
    ((after (.frameReceivedInSync 0 ⟨10, 0⟩ rightFrame) (synced 0 (fun x => { x with computed := some 0 }) mapped)).port
      0).total = 1 := by decide +kernel
theorem test_frame_no_parity_check :
    ((after (.frameReceivedInSync 0 ⟨10, 0⟩ rightFrame) (synced 0 id mapped)).port 0).total = 0 := by decide +kernel
theorem test_fourth_error :
    ((after (.frameReceivedInSync 0 ⟨10, 0⟩ frameOfOnes) (synced 0 (fun x => { x with errored := 3 }) mapped)).port
      0).align = .hunt := by decide +kernel
theorem test_multiframe_aligned :
    ((after (.multiframeAligned 0)
      (synced 0 (fun x => { x with inSequence := 1, predecessor := some 15 }) mapped)).port 0).expected = 1 := by
  decide +kernel
theorem test_multiframe_lost :
    ((after (.multiframeAlignmentLost 0 7)
      (synced 0 (fun x => { x with aligned := true, mismatched := true, expected := 4 }) mapped)).port 0).aligned =
      false := by decide +kernel
theorem test_first_read :
    ((after (.firstRead 0 364)
      (synced 0 (fun x => { x with store := { x.store with frames := [rightFrame] } }) mapped)).port 0).store.firstRead =
      true := by decide +kernel
theorem test_first_read_too_soon :
    let s := synced 0 (fun x => { x with store := { x.store with frames := [rightFrame] } }) mapped
    after (.firstRead 0 363) s = s := by decide +kernel
theorem test_first_frame_start :
    let t := after (.localFrameStart Inputs.frameNone) mapped
    t.imu.clk = 1 ∧ t.tmu.frameCount = 0 ∧ t.tmu.nextStart = 4097 := by decide +kernel
theorem test_sent_frame_index :
    ((after (.localFrameStart Inputs.frameNone) mapped).port 0).txFrame.map (fun f => (frameFields f).index) = some 0 := by
  decide +kernel
theorem test_tick :
    let t := after .oneSecondTick (ticking (mapped.modPort 0 fun x => { x with perSecond := 7 }))
    (t.port 0).lastSecond = 7 ∧ t.tmu.seconds = 1 := by decide +kernel
theorem test_deg_absent_clean :
    ((after (.degAbsent 0) (ticking (synced 0 (fun x => { x with deg := true, cleanRun := 6, perSecond := 7 }) mapped))).port
      0).deg = false := by decide +kernel
theorem test_request_lock_stored :
    ((after (.requestLock 1 0) mapped).group 0).operator = .lock := by decide +kernel
theorem test_man_w_revertive :
    ((after (.requestManW 1 0) mapped).mci.replies.map fun r => r.bytes.getD 5 0) = [6] := by decide +kernel
theorem test_map_write_refused_twice :
    ((after (.writeMap 1 40 [1, 0, 0]) mapped).mci.replies.map fun r => r.bytes.getD 5 0) = [5] := by decide +kernel
theorem test_pulse_is_stamped :
    let s := ending 4097 (mapped.modCand 8 fun c => { c with entry := { c.entry with enabled := true }, claim := true })
    (after (.stationPulse 0 ⟨256, ⟨100, 20⟩⟩) s).imu.coarseCount = 1 ∧
      after (.stationPulse 0 ⟨255, ⟨100, 20⟩⟩) s = s := by decide +kernel
theorem test_calibration_turn :
    ((after (.calibrationTurnEnd (Vector.replicate 64 40)) (ending 64 mapped)).vernier 0).cal = some 40 := by
  decide +kernel
theorem test_calibration_fault :
    ((after (.calibrationTurnEnd (Vector.replicate 64 64)) (ending 64 mapped)).vernier 0).state = .calFault := by
  decide +kernel
theorem test_measure_out_of_sync :
    ((after (.measure 1 0 4) mapped).mci.replies.map fun r => r.bytes.getD 5 0) = [2] := by decide +kernel
theorem test_measure_rounds :
    (after (.measure 1 0 3) (synced 0 id mapped)).csv.audits = [{ port := 0, adHoc := true, burst := some 2 }] := by
  decide +kernel
theorem test_patch_open_refused :
    ((after (.patchOpen 1 0 5 0) (after (.requestLock 1 0) mapped)).cable 0).window = none := by decide +kernel
theorem test_patch_open_override :
    ((after (.patchOpen 1 0 5 1) (after (.requestLock 1 0) mapped)).cable 0).window =
      some { remaining := 300, override := true } := by decide +kernel
theorem test_fetch_empty :
    ((after (.fetch 1 0) mapped).mci.replies.map fun r => (r.bytes.drop 5).take 3) = [[1, 0, 0]] := by decide +kernel
theorem test_aco : (after (.aco 1) { mapped with alu := { mapped.alu with relays := ⟨false, true, false, true⟩ } }).alu.relays =
    ⟨false, true, false, false⟩ := by decide +kernel
theorem test_bad_length : (after (.commandMessage [0xA5, 61]) mapped).mci.badCrc = 1 := by decide +kernel
theorem test_reinit_waits : (after (.reinit 1) mapped).mci.restart = some .warm := by decide +kernel
theorem test_dropped : (after (.aco 1) (after (.restart 1) mapped)).mci.dropped = 1 := by decide +kernel


/-! ## Witnesses: states that meet the hypotheses of the obligations, clause by clause -/

/-- `s` with commands waiting. -/
def waiting (s : State) : State := { s with pending := [.aco 1, .oneSecondTick] }

theorem witness_StepTakesFront : (waiting mapped).pending = .aco 1 :: [.oneSecondTick] := by decide

theorem witness_EmptyQueueClockEdge :
    ((ending 2 mapped).pending = [] ∧ (ending 2 mapped).moment.opened = false ∧
      (ending 2 mapped).imu.clk + 1 < (ending 2 mapped).tmu.nextStart) ∧
    (mapped.pending = [] ∧ mapped.tmu.nextStart ≤ mapped.imu.clk + 1) := by decide +kernel

theorem witness_SignalDetectLowRaisesLos :
    ((synced 1 id mapped).port 1).loopback ≠ .terminal ∧ ((synced 1 id mapped).port 1).align = .sync ∧
    ((synced 1 (fun x => { x with loopback := .terminal }) mapped).port 1).loopback = .terminal := by decide +kernel

/-- LOS with light seen for `n` local frame starts. -/
def debounced (n : Nat) : State := mapped.modPort 1 fun x => { x with los := true, sd := true, losCount := n }

theorem witness_SignalDetectHighIsDebounced :
    ((debounced 7).port 1).los = true ∧ ((debounced 7).port 1).sd = true ∧
      ((debounced 7).port 1).loopback ≠ .terminal ∧ ((debounced 7).port 1).losCount = 7 ∧
      Judgement.los 1 ∉ (debounced 7).openFrame.moment.done ∧
      Judgement.los 1 ∈ (after (.losDebounceEnd 1) (debounced 7)).openFrame.moment.done := by decide +kernel

/-- Port 0 in HUNT from offset 5, or in CONFIRM with `n` words. -/
def hunting : State := mapped.modPort 0 fun x => { x with searchFrom := 5 }
def confirming (n : Nat) : State := mapped.modPort 0 fun x => { x with align := .confirm, confirmed := n }

theorem witness_SearchAndConfirm :
    ((hunting.port 0).align = .hunt ∧ (hunting.port 0).los = false ∧ (hunting.port 0).searchFrom ≤ 5) ∧
    (4 < (hunting.port 0).searchFrom) ∧
    (((confirming 0).port 0).align = .confirm ∧ ((confirming 0).port 0).confirmed = 0) ∧
    ((confirming 1).port 0).confirmed = 1 ∧ (0x3DC3#16 ≠ 0x3DC2#16) ∧ ((confirming 1).port 0).align ≠ .hunt ∧
    (hunting.port 0).loopback ≠ .terminal ∧
    (let x := (hunting.modPort 0 fun x => { x with loopback := .terminal, txFrame := some rightFrame }).port 0
     x.loopback = .terminal ∧ x.txFrame = some rightFrame ∧ x.align = .hunt ∧ x.los = false ∧ x.searchFrom ≤ 11648 ∧
       x.lineWord 0 11648 = 0x3DC2#16 ∧ x.lineWord 0x3DC2 11647 ≠ 0x3DC2#16) := by
  decide +kernel

/-- Port 0 in SYNC after `n` errored words. -/
def erring (n : Nat) : State := synced 0 (fun x => { x with errored := n }) mapped

/-- Every vernier FREE with CAL 40, and candidate 8 enabled with its claim open, in a local frame that ends at 4,097. -/
def measuring : State :=
  let s := ending 4097 (mapped.modCand 8 fun c => { c with entry := { c.entry with enabled := true }, claim := true })
  { s with imu := { s.imu with
      verniers := Vector.replicate 4 { state := .free, cal := some 40, lastResult := some 40, faulted := false }
      round := none } }

/-- A frame with a right alignment word, overhead byte 2 `b` and the trace character 41 hex. -/
def framed (b : Byte) : LineFrame :=
  { rightFrame with overhead := (rightFrame.overhead.set 2 b).set 3 0x41 }

/-- Port 1, the protection member of group 0, in SYNC, multiframe aligned and expecting index `n`, with the characters
`cs` of the multiframe collected. -/
def receiving (n : BitVec 4) (cs : List Byte) (s : State) : State :=
  (synced 1 (fun x => { x with aligned := true, expected := n }) s).modCable 1 fun c => { c with collecting := some cs }

/-- The same with an active audit of port 1 with the given slots. -/
def auditing1 (slots : List SampleSlot) (s : State) : State :=
  let s := receiving 15 [] s
  { s with imu := { s.imu with burst := some ⟨1, false, 0, none, 0, slots⟩ } }

/-- The moment at which an arrival is latched, and the vernier given to it. -/
def latched10 (s : State) : State := s.advanceTo (s.latchClock ⟨10, 0⟩)
def givenTo (s : State) : Option (Fin 4) :=
  let u := latched10 s
  u.arbitrate (u.candClaims (portCand 1) && u.tmu.selected == some (portCand 1))

theorem witness_FrameReceivedIsCheckedAndStored :
    (((erring 3).port 0).align = .sync ∧ frameWord (((erring 3).port 0).input rightFrame) = alignmentWord) ∧
    (((erring 2).port 0).align = .sync ∧ ((erring 2).port 0).errored < 3) ∧
    ((erring 2).port 0).aligned = false ∧
    (let s := synced 0 (fun x => { x with predecessor := some 14, inSequence := 1 }) mapped
     (s.port 0).predecessor = some ((frameFields rightFrame).index - 1) ∧ (s.port 0).inSequence = 1) ∧
    (let s := { mapped with mci := { mapped.mci with source := some 1 } }; s.mci.source = some 1) := by decide +kernel

/-- The trace character of a frame taken in order: out of order, within the multiframe, and as its last. -/
theorem witness_FrameReceived_trace :
    (let t := after (.frameReceivedInSync 1 ⟨10, 0⟩ (framed 0x0F)) (receiving 15 [1] mapped)
     (t.port 1).aligned = true ∧ (t.cable 1).collecting = none ∧ (t.cable 1).captures = []) ∧
    (let t := after (.frameReceivedInSync 1 ⟨10, 0⟩ (framed 1)) (receiving 1 [0xC1] mapped)
     (t.port 1).aligned = true ∧ (t.cable 1).collecting = some [0xC1, 0x41]) ∧
    (let cs : List Byte := 0xC1 :: List.replicate 14 0x41
     let s := (receiving 15 cs mapped).modCable 1 fun c =>
       { c with traceRun := 2, traceCandidate := some (Vector.replicate 16 0x41) }
     let t := after (.frameReceivedInSync 1 ⟨10, 0⟩ (framed 0x0F)) s
     (t.port 1).aligned = true ∧ (t.cable 1).traceRun = 3 ∧
       (t.cable 1).accepted = some (Vector.replicate 16 0x41)) := by decide +kernel

/-- A marker request taken at once and one whose stamp is converted, and an echo taken at once and one whose stamp is. -/
theorem witness_FrameReceived_markers :
    (let s := receiving 15 [] mapped
     let t := after (.frameReceivedInSync 1 ⟨10, 0⟩ (framed 0x1F)) s
     givenTo s = none ∧ (t.cable 1).verdict ≠ .looped ∧ (t.cable 1).pendingEcho.isSome = true) ∧
    (let s := receiving 15 [] measuring
     let t := after (.frameReceivedInSync 1 ⟨10, 0⟩ (framed 0x1F)) s
     givenTo s = some 0 ∧ (t.cable 1).pendingEcho = none ∧ (t.cable 1).awaited = some 0) ∧
    (let s := auditing1 [.outstanding (.exact 0) 0 false] measuring
     (latched10 s).auditClaims 1 = true ∧ givenTo s = some 0 ∧ (frameFields (framed 0x2F)).mech = true) ∧
    (let s := auditing1 [.outstanding (.exact 0) 0 false] mapped
     (latched10 s).auditClaims 1 = true ∧ givenTo s = none ∧
       (after (.frameReceivedInSync 1 ⟨10, 0⟩ (framed 0x2F)) s).imu.burst = none) ∧
    (let s := auditing1 [.outstanding (.exact 0) 0 false, .pending] mapped
     (after (.frameReceivedInSync 1 ⟨10, 0⟩ (framed 0x2F)) s).imu.burst.isSome = true) := by decide +kernel

/-- The switch signal of a protection member without SF. -/
theorem witness_FrameReceived_signal :
    let s := receiving 15 [] (mapped.modPort 1 fun x => { x with lof := false })
    let t := after (.frameReceivedInSync 1 ⟨10, 0⟩ (framed 0x0F)) (s.putAlarm (.port 1 .lof) Alarm.quiet)
    s.membership 1 = some (0, .p) ∧ t.sf 1 = false ∧ (t.group 0).run = 1 ∧ (s.group 1).portOf .p ≠ some 1 := by
  decide +kernel

theorem witness_FourthErroredWordEndsSync :
    ((erring 3).port 0).align = .sync ∧ ((erring 3).port 0).errored = 3 ∧
      frameWord (((erring 3).port 0).input frameOfOnes) ≠ alignmentWord := by decide +kernel

theorem witness_MultiframeAlignmentChanges :
    (let x := (synced 0 (fun x => { x with inSequence := 1, predecessor := some 15 }) mapped).port 0;
      x.align = .sync ∧ x.aligned = false ∧ x.inSequence = 1 ∧ x.predecessor = some 15) ∧
    (let x := (synced 0 (fun x => { x with aligned := true, mismatched := true, expected := 4 }) mapped).port 0;
      x.aligned = true ∧ x.mismatched = true ∧ 5 ≠ x.expected) := by decide +kernel

theorem witness_LofNeedsTwentyFourFrames :
    mapped.coldRestartDue = false ∧ Judgement.lof 0 ∉ mapped.openFrame.moment.done ∧
    (let x := (mapped.modPort 0 fun x => { x with lof := false, outCount := 23 }).port 0;
      x.lof = false ∧ x.align ≠ .sync ∧ x.outCount = 23) ∧
    (let x := (synced 0 (fun x => { x with inCount := 23 }) mapped).port 0;
      x.lof = true ∧ x.align = .sync ∧ x.inCount = 23) ∧
    (let x := (mapped.modPort 0 fun x => { x with lof := false, outCount := 22 }).port 0;
      x.lof = false ∧ x.align ≠ .sync ∧ x.outCount < 23) := by decide +kernel

/-- Port 0 in SYNC, no first read made, with the given frames in its store. -/
def stored (fs : List LineFrame) : State :=
  synced 0 (fun x => { x with store := { frames := fs, firstRead := false, reading := none } }) mapped

theorem witness_FirstReadNeedsAQuarterFrame :
    ((stored [rightFrame]).port 0).align = .sync ∧ ((stored [rightFrame]).port 0).store.firstRead = false ∧
      ((stored [rightFrame]).port 0).store.frames = [rightFrame] ∧
      ((stored [rightFrame, frameOfOnes]).port 0).store.frames = rightFrame :: [frameOfOnes] ∧ [frameOfOnes] ≠ [] ∧
      Judgement.store 0 ∉ (stored [rightFrame]).openFrame.moment.done ∧
      Judgement.store 0 ∉ (stored [rightFrame, frameOfOnes]).openFrame.moment.done ∧
      (((stored [rightFrame]).modPort 0 fun x => { x with loopback := .terminal }).port 0).loopback = .terminal := by decide +kernel

/-- Port 0 after its first read, with the given frames behind the one that is read, in loopback `l`. -/
def reading (l : Loopback) (fs : List LineFrame) : State :=
  synced 0 (fun x => { x with
    loopback := l, settings := { x.settings with loopback := l }, txFrame := some rightFrame,
    store := { frames := fs, firstRead := true, reading := some frameOfOnes } }) mapped

/-- `n` bytes of the newest frame of every port written. -/
def written (n : Nat) : FrameInputs := { Inputs.frameNone with written := Vector.replicate 8 n }

/-- The elastic store at its limits: the frame repeated, the next one read, and one dropped. -/
theorem witness_FirstRead_slips :
    (let s := reading .normal [rightFrame]
     let t := after (.localFrameStart (written 363)) s
     s.moment.opened = false ∧ s.replyDone = false ∧ (t.port 0).slipCount = 1 ∧
       (t.port 0).store.reading = some frameOfOnes) ∧
    (let t := after (.localFrameStart (written 364)) (reading .normal [rightFrame])
     (t.port 0).slipCount = 0 ∧ (t.port 0).store.reading = some rightFrame) ∧
    (let t := after (.localFrameStart (written 1092)) (reading .normal [frameOfOnes, rightFrame])
     (t.port 0).slipCount = 0 ∧ (t.port 0).store.reading = some frameOfOnes) ∧
    (let t := after (.localFrameStart (written 1093)) (reading .normal [frameOfOnes, rightFrame])
     (t.port 0).slipCount = 1 ∧ (t.port 0).store.reading = some rightFrame) ∧
    (((reading .terminal [rightFrame]).port 0).loopback = .terminal ∧
      ((reading .terminal []).port 0).store.frames = []) := by decide +kernel

/-- Port 0 at a coming tick, changed by `f`. -/
def judged (f : Port → Port) : State := ticking (synced 0 f mapped)

theorem witness_SecondsAreJudged :
    ((judged id).openFrame.tickDue = true ∧ Judgement.exc 0 ∉ (judged id).openFrame.moment.done ∧
      Judgement.deg 0 ∉ (judged id).openFrame.moment.done) ∧
    (let x := (judged fun x => { x with exc := true, perSecond := 799, belowXt := 1 }).port 0;
      x.available = true ∧ x.exc = true ∧ x.perSecond < x.settings.xt ∧ x.belowXt = 1) ∧
    (let x := (judged fun x => { x with perSecond := 8, degradedRun := 6 }).port 0;
      x.available = true ∧ x.deg = false ∧ x.settings.dt ≤ x.perSecond ∧ x.settings.dm ≤ bump x.degradedRun 10) ∧
    (let x := (judged fun x => { x with deg := true, perSecond := 7, cleanRun := 6 }).port 0;
      x.available = true ∧ x.deg = true ∧ x.perSecond < x.settings.dt ∧ x.settings.dm ≤ bump x.cleanRun 10) ∧
    ((judged fun x => { x with available := false }).port 0).available = false := by decide +kernel

theorem witness_LocalFrameStartGenerator :
    mapped.moment.opened = false ∧ mapped.coldRestartDue = false ∧ mapped.GeneratorLaw := by
  unfold State.GeneratorLaw; decide +kernel

theorem witness_OneSecondTickClosesTheSecond :
    ((ticking mapped).moment.opened = false ∧ (ticking mapped).tmu.started = true ∧
      (ticking mapped).tmu.frameCount = 7999) ∧ mapped.tmu.started = false ∧
    (let x := (judged fun x => { x with perSecond := 800, deg := true }).port 0
     x.available = true ∧ x.settings.xt ≤ x.perSecond ∧ x.settings.dt ≤ x.perSecond) ∧
    (let x := (judged fun x => { x with exc := true, perSecond := 799, belowXt := 1, degradedRun := 6 }).port 0
     x.available = true ∧ x.perSecond < x.settings.xt ∧ x.belowXt ≠ 0 ∧ x.settings.dm ≤ bump x.degradedRun 10) ∧
    (let x := (judged fun x => { x with deg := true, perSecond := 7, cleanRun := 5 }).port 0
     x.perSecond < x.settings.dt ∧ bump x.cleanRun 10 < x.settings.dm) ∧
    ((judged fun x => { x with available := false }).port 0).available = false ∧
    ((after (.localFrameStart Inputs.frameNone) (judged id)).port 0).available = true ∧
    ((after (.localFrameStart Inputs.frameNone) mapped).port 0).available = false := by decide +kernel

/-- After one local frame start: with FORCE stored the selector of group 0 has moved. -/
def begun : State := after (.localFrameStart Inputs.frameNone) mapped
def switched : State := after (.localFrameStart Inputs.frameNone) (after (.requestForce 1 0) mapped)

/-- Port 0 in SYNC after its first read, free of SF. -/
def clean : State :=
  let s := (reading .normal [rightFrame]).modPort 0 fun x => { x with lof := false }
  s.putAlarm (.port 0 .lof) Alarm.quiet

theorem witness_BackplaneSlots :
    (let t := after (.localFrameStart (written 364)) clean
     clean.coldRestartDue = false ∧ t.ssw.entryOf 0 5 = .mapped 0 5 ∧ (t.group 0).guard = false ∧
       (t.group 0).portOf (t.group 0).selector = some 0 ∧ (t.port 0).align = .sync ∧
       (t.port 0).store.firstRead = true ∧ (t.port 0).store.reading = some rightFrame ∧ t.sf 0 = false) ∧
    (begun.port 0).align ≠ .sync ∧ begun.sf 0 = true ∧
    mapped.coldRestartDue = false ∧ begun.ssw.entryOf 0 127 = .unequipped ∧ begun.ssw.entryOf 0 0 = .mapped 0 0 ∧
      (begun.group 0).guard = false ∧ switched.ssw.entryOf 0 39 = .mapped 0 39 ∧ (switched.group 0).guard = true := by
  decide +kernel

theorem witness_TransmittedFrame :
    mapped.coldRestartDue = false ∧ (begun.port 0).loopback ≠ .facility ∧ begun.membership 0 = some (0, .w) ∧
      begun.membership 1 = some (0, .p) ∧ (begun.group 0).bridge = true ∧ begun.ssw.mapInUse[(0 : Fin 256)] = .mapped 0 0 ∧
      (let s := mapped.modPort 7 fun x => { x with settings := { x.settings with loopback := .facility } }
       ((after (.localFrameStart Inputs.frameNone) s).port 7).loopback = .facility) ∧
      (after (.localFrameStart Inputs.frameNone) State.reset).membership 7 = none ∧
      (let t := after (.localFrameStart (written 364)) (reading .facility [rightFrame])
       (t.port 0).loopback = .facility ∧ (t.port 0).align = .sync ∧ (t.port 0).txFrame = some rightFrame) ∧
      (let set : Loopback → State → State := fun l s =>
         s.modPort 0 fun x => { x with settings := { x.settings with loopback := l } }
       let s := set .terminal (synced 0 id mapped)
       let u := set .normal (reading .terminal [rightFrame])
       let v := u.modPort 0 fun x => { x with sd := false }
       ((s.port 0).loopback ≠ .terminal ∧
         ((after (.localFrameStart Inputs.frameNone) s).port 0).loopback = .terminal) ∧
       ((v.port 0).loopback = .terminal ∧ (v.port 0).sd = false ∧
         ((after (.localFrameStart Inputs.frameNone) v).port 0).los = true)) := by decide +kernel

/-- The first line slot of group 0 unmapped. -/
def unmapped : State := { mapped with ssw := { mapped.ssw with storedMap := mapped.ssw.storedMap.set 0 .unequipped } }

theorem witness_MapWrites :
    (unmapped.canTake = true ∧ unmapped.changePending = false) ∧ (unmapped.group 0).defined = true ∧
      (∀ m : Fin 256, m ≠ 0 → unmapped.ssw.storedMap[m] ≠ .mapped 0 0) ∧ (unmapped.group 7).defined = false ∧
      mapped.canTake = true ∧ mapped.changePending = false ∧ mapped.ssw.storedMap[(39 : Fin 256)] = .mapped 0 39 ∧
      1 < (2#8).toNat ∧ 8 ≤ (8#8).toNat ∧ 40 ≤ (40#8).toNat := by decide +kernel

/-- Group 0 changed by `f` before a local frame start, and as it leaves it. -/
def protecting (f : Group → Group) : Group :=
  (after (.localFrameStart Inputs.frameNone) (mapped.modGroup 0 f)).group 0

theorem witness_ProtectionFollowsTheTopRequest :
    (let y := protecting fun x => { x with record := { x.record with protection := none }, bridge := true }
     y.defined = true ∧ y.protected = false ∧ y.record.arch = .pair) ∧
    (let y := protecting fun x => { x with operator := .lock }; y.protected = true ∧ y.operator = .lock ∧ y.unprot = true) ∧
    (let y := protecting fun x => { x with operator := .force, record := { x.record with arch := .spare } }
     y.record.arch = .spare ∧ y.txChannel = .p ∧ y.bridge = true) ∧
    (let y := protecting fun x => { x with operator := .force, selectedPort := some 1 }; y.guard = false) ∧
    (mapped.tmu.started = false ∧ mapped.replyDone = false ∧
      ∀ p, (mapped.port p).loopback = (mapped.port p).settings.loopback) ∧
    (let y := protecting fun x =>
       { x with record := { x.record with direction := .bothEnds }, accepted := some ⟨13, .p, true, .pair, .bothEnds, 0⟩ }
     y.record.direction = .bothEnds ∧ y.psf = none ∧ y.top.code.toNat < receivedPriority 13 ∧ y.txRequest = 2 ∧
       y.selector = .p ∧ y.guard = true) ∧
    (let y := protecting fun x => { x with record := { x.record with direction := .bothEnds } }
     y.accepted = none ∧ y.protected = true) ∧
    ((switched.group 0).guard = true ∧ switched.queue.records.length < 64 ∧ switched.queue.news.traffic = true ∧
      (switched.group 0).unprot = false) ∧
    mapped.moment.opened = false ∧ mapped.coldRestartDue = false ∧ (begun.group 0).protected = true ∧
      (begun.group 0).record.direction = .oneEnd ∧ (begun.group 0).record.arch = .pair ∧
      (switched.group 0).selector = .p ∧ (switched.group 0).defined = true := by decide +kernel

/-- Group 0 changed by `f`, with LOS flagged on its working port. -/
def failing (f : Group → Group) : State :=
  let s := mapped.putAlarm (.port 0 .los) { Alarm.quiet with present := true, flag := true }
  s.modGroup 0 f

/-- Group 1 is the management group and its record `r` waits for a reply that has been sent. -/
def releasing (r : Option GroupRecord) : State :=
  { mapped with mci := { mapped.mci with
      group := 1, pendingRecord := r, replies := [⟨List.replicate 10 0, .deferred⟩], sending := some 10 } }

theorem witness_HoldOffAndWtrExpire :
    (let s := failing fun x => { x with record := { x.record with holdOff := 1 }, sfW := ⟨799, false⟩ };
      (s.group 0).defined = true ∧ Judgement.group 0 ∉ s.openFrame.moment.done ∧
        ((s.group 0).condition .w .sf).after = false ∧ s.openFrame.memberSf 0 .w = true ∧
        800 * (s.group 0).record.holdOff ≤ ((s.group 0).condition .w .sf).count + 1) ∧
    (let s := failing fun x => { x with record := { x.record with holdOff := 1 }, sfW := ⟨798, false⟩ };
      s.openFrame.memberSf 0 .w = true ∧
        ((s.group 0).condition .w .sf).count + 1 < 800 * (s.group 0).record.holdOff) ∧
    (let s := ticking (mapped.modGroup 0 fun x => { x with restore := .wait, wtrCount := some 299, top := .wait });
      (s.group 0).protected = true ∧ s.openFrame.moment.tick = true ∧ (s.group 0).restore = .wait ∧
        (s.group 0).wtrCount = some 299 ∧ 10 * (s.group 0).record.wtr ≤ 300 ∧
        (s.group 0).top.restores (s.group 0).record.revertive = false) ∧
    mapped.replyDone = false ∧
    (let s := releasing (some { (mapped.group 1).record with holdOff := 1 })
     s.replyDone = true ∧ s.replyEffect = .deferred ∧ (s.openChanged.group 1).defined = true ∧
       Judgement.group 1 ∉ s.openChanged.moment.done ∧ (s.openChanged.group 1).record.holdOff = 1) := by decide +kernel

theorem witness_OperatorRequests :
    (mapped.canTake = true ∧ mapped.changePending = false ∧ (mapped.group 0).protected = true ∧
      (mapped.group 0).operator ≠ .lock ∧ (mapped.group 0).record.revertive = true ∧
      (mapped.group 0).top.code.toNat ≤ 8 ∧ (mapped.group 0).patchCode = 0 ∧ (mapped.group 0).receivedWeight = 0) ∧
    ((mapped.modGroup 0 fun x => { x with operator := .lock }).group 0).operator = .lock ∧
    (let x := (mapped.modGroup 0 fun x => { x with top := .degrW, record := { x.record with revertive := false } }).group 0;
      8 < x.top.code.toNat ∧ 7 < x.top.code.toNat ∧ x.record.revertive = false) ∧
    (mapped.group 7).protected = false ∧ 8 ≤ (8#8).toNat := by decide +kernel

def someSignal : SwitchSignal := ⟨0, .p, true, .pair, .bothEnds, 0⟩

theorem witness_EqualValuesAreAccepted :
    (let x := (mapped.modGroup 0 fun x => { x with candidate := some someSignal, run := 2 }).group 0;
      x.candidate = some someSignal ∧ x.run = 2) ∧
    (let x := (mapped.modGroup 0 fun x => { x with candidate := some someSignal, run := 1 }).group 0;
      x.candidate = some someSignal ∧ x.run < 2) ∧
    (let s := mapped.modQuality 0 fun x => { x with candidate := some 3, run := 7 };
      s.tmu.quality[(0 : Fin 8)].candidate = some 3 ∧ s.tmu.quality[(0 : Fin 8)].run = 7) ∧
    (let s := mapped.modQuality 0 fun x => { x with candidate := some 3, run := 6 };
      s.tmu.quality[(0 : Fin 8)].run < 7) := by decide +kernel

/-- Group 0 in BOTH-ENDS, with an accepted value that names channel `m`. -/
def bothEnds (m : Member) (f : Group → Group) : State :=
  mapped.modGroup 0 fun x => f
    { x with record := { x.record with direction := .bothEnds }, accepted := some { someSignal with channel := m } }

/-- Group 0 as its evaluation leaves it up to the transmitted channel. -/
def requestedOf (s : State) : Group :=
  let u := s.openFrame
  (u.group 0).requested 0 u.moment.tick (u.memberSf 0 .w) (u.memberSd 0 .w) (u.memberSf 0 .p) (u.memberSd 0 .p)

theorem witness_ConfirmTimerAndAgreement :
    (let s := bothEnds .p fun x => { x with operator := .lock, confirm := some 399 };
      (s.group 0).protected = true ∧ Judgement.group 0 ∉ s.openFrame.moment.done ∧
        (requestedOf s).record.direction = .bothEnds ∧ (requestedOf s).psf = none ∧
        (requestedOf s).accepted = some someSignal ∧ (s.openFrame.group 0).confirm = some 399 ∧
        (requestedOf s).txChannel = (s.openFrame.group 0).txChannel ∧ (requestedOf s).txChannel ≠ .p) ∧
    (let s := bothEnds .w fun x => { x with psf := some .timeout, agreement := 399 };
      (s.openFrame.group 0).psf.isSome = true ∧
        (requestedOf s).accepted = some { someSignal with channel := .w } ∧ (requestedOf s).mismatch 0 = false ∧
        (requestedOf s).txChannel = .w ∧ (s.openFrame.group 0).agreement = 399) := by decide +kernel

theorem witness_ArbiterGivesTheLowestUsable :
    measuring.arbitrate false = some 0 ∧ mapped.arbitrate false = none ∧
      ({ measuring with tmu := { measuring.tmu with selected := some 8 } }).arbitrate false = some 1 := by decide +kernel

theorem witness_StationPulseIsStamped :
    (mapped.tmu.stations[(0 : Fin 2)].divider + 256 = 256 ∧ mapped.tmu.stations[(0 : Fin 2)].divider + 255 ≠ 256) ∧
    (let u := measuring.advanceTo (measuring.latchClock ⟨4097, 0⟩);
      u.candClaims 8 = true ∧ u.arbitrate false = some 0) ∧
    (let s := ending 4097 (mapped.modCand 8 fun c => { c with entry := { c.entry with enabled := true }, claim := true })
     let u := s.advanceTo (s.latchClock ⟨4097, 0⟩);
      u.candClaims 8 = true ∧ u.arbitrate false = none) ∧
    (mapped.advanceTo (mapped.latchClock ⟨0, 0⟩)).candClaims 8 = false := by decide +kernel

/-- Vernier 1 converts a stamp of candidate `k` until clock `due`. -/
def converting (k : Option (Fin 10)) (due : Nat) (s : State) : State :=
  s.modVernier 1 fun v => { v with state := .busy ⟨.fine 0 0 40, due, k, none⟩ }

theorem witness_StampCompletes :
    (((converting none 4097 measuring).vernier 1).state = .busy ⟨.fine 0 0 40, 4097, none, none⟩ ∧
      4097 ≤ measuring.horizon ∧ (∀ r, measuring.imu.round = some r → r.turn ≠ 1 ∨ r.begun = true)) ∧
    (let s := { measuring with imu := { measuring.imu with round := some ⟨1, false, 0⟩ } };
      ∀ r, s.imu.round = some r → r.turn = 1 ∧ r.begun = false) ∧
    measuring.horizon < 4098 ∧ (measuring.vernier 1).due = none ∧
    (let s := (converting none 4097 measuring).modCable 3 fun c => { c with awaited := some 1 }
     (s.cable 3).awaited = some 1) := by
  refine ⟨⟨by decide +kernel, by decide +kernel, fun r h => ?_⟩, fun r h => ?_, by decide +kernel, by decide +kernel,
    by decide +kernel⟩
  · exact absurd h (by decide +kernel +revert)
  · cases h; decide

theorem witness_CalibrationTurnEnds :
    ((ending 64 mapped).imu.round = some ⟨0, true, 0⟩ ∧ 0 + 64 ≤ (ending 64 mapped).horizon) ∧
    (mapped.canTake = true ∧ mapped.imu.round.isSome = true) ∧
    (measuring.canTake = true ∧ measuring.imu.round = none ∧ (measuring.vernier 0).due = none) ∧
    (let s := measuring.modVernier 0 fun v => { v with state := .busy ⟨.coarse 0, 8, none, none⟩ };
      s.canTake = true ∧ s.imu.round = none ∧ (s.vernier 0).due.isSome = true) := by decide +kernel

theorem witness_StampArithmetic : 0 < 24 := by decide

theorem witness_DelayOfASample : (0 : Int) ≤ 122 - 0 - 122 ∧ (121 : Int) - 0 - 122 < 0 := by decide

theorem witness_BurstReduction :
    (let b := burstOfFour 0 [sampleOf 1845 false, .missing, .missing, .missing];
      b.samples.length < (b.slots.length + 1) / 2) ∧
    (let b := burstOfFour 0 [sampleOf 1845 false, sampleOf 1847 true, .missing, .missing];
      (b.slots.length + 1) / 2 ≤ b.samples.length ∧ 0 < b.samples.length) := by decide

def someTrace : Trace := Vector.replicate 16 0x41

/-- Port 0 with a trace candidate of run count 2, changed by `f`. -/
def tracing (f : Cable → Cable) : State :=
  mapped.modCable 0 fun c => f { c with traceRun := 2, traceCandidate := some someTrace }

theorem witness_TraceAcceptedIsCompared :
    (((tracing id).cable 0).traceRun = 2 ∧ ((tracing id).cable 0).traceCandidate = some someTrace ∧
      ((tracing id).cable 0).accepted ≠ some someTrace ∧ ((tracing id).cable 0).verdict ≠ .patching) ∧
    ((tracing fun c => { c with accepted := some someTrace }).cable 0).accepted = some someTrace ∧
    ((tracing fun c => { c with verdict := .patching }).cable 0).verdict = .patching := by decide +kernel

/-- Port 0 with a pending echo stamped at clock `n`, in a local frame that ends at clock 100. -/
def echoing (n : BitVec 24) : State := ending 100 (mapped.modCable 0 fun c => { c with pendingEcho := some (.exact n) })

theorem witness_EchoCarriesTheTurnaround :
    (((echoing 36).cable 0).echoOut = none ∧ ((echoing 36).openFrame.cable 0).pendingEcho = some (.exact 36) ∧
      16384 ≤ interval (.exact 36) (.exact (echoing 36).openFrame.frameMark)) ∧
    (((echoing 37).openFrame.cable 0).pendingEcho = some (.exact 37) ∧
      interval (.exact 37) (.exact (echoing 37).openFrame.frameMark) < 16384) := by decide +kernel

/-- An audit of port 0 queued. -/
def queued (s : State) : State := { s with csv := { s.csv with audits := [⟨0, false, none⟩] } }

theorem witness_AuditsAreQueuedAndStarted :
    (let u := (queued (synced 0 id mapped)).openFrame;
      u.csv.audits = ⟨0, false, none⟩ :: [] ∧ u.index = 0 ∧ u.imu.burst = none ∧ (u.port 0).align = .sync ∧
        (u.cable 0).verdict ≠ .looped ∧ (u.port 0).loopback ≠ .facility) ∧
    (let s := queued (mapped.modCable 0 fun c => { c with record := { c.record with period := 1 } })
     let u := s.openFrame
     u.csv.audits = [⟨0, false, none⟩] ∧ u.index = 0 ∧ u.imu.burst = none ∧ u.csv.endedAt ≠ u.tmu.frameNo ∧
       (u.port 0).align ≠ .sync ∧ 0 < (u.cable 0).record.period ∧ (u.cable 0).window = none ∧
       (u.cable 0).suspended = false) ∧
    (let s := synced 5 id mapped
     let u := { s with csv := { s.csv with audits := [⟨0, false, none⟩, ⟨5, true, some 4⟩, ⟨1, false, none⟩] } }.openFrame
     u.csv.audits = [⟨0, false, none⟩] ++ ⟨5, true, some 4⟩ :: [⟨1, false, none⟩] ∧ (u.port 0).align ≠ .sync ∧
       (u.port 5).align = .sync ∧ (u.cable 5).verdict ≠ .looped ∧ (u.port 5).loopback ≠ .facility) ∧
    ((queued mapped).openFrame.cable 0).record.period = 0 ∧
    (let s := { queued mapped with csv := { (queued mapped).csv with endedAt := 1 } }
     s.openFrame.csv.endedAt = s.openFrame.tmu.frameNo ∧ s.openFrame.imu.burst = none) ∧
    (let s := { queued mapped with tmu := { mapped.tmu with started := true } };
      s.openFrame.index ≠ 0) ∧
    (let s := synced 0 id mapped;
      s.canTake = true ∧ (s.port 0).align = .sync ∧ (s.cable 0).verdict ≠ .looped ∧ (s.port 0).loopback ≠ .facility ∧
        (s.cable 0).suspended = false ∧ s.auditActive 0 = false) ∧
    (mapped.canTake = true ∧ (mapped.port 0).align ≠ .sync) ∧ 8 ≤ (8#8).toNat := by decide +kernel

/-- An active audit of port 0 with the given slots, `n` markers due, in local frame `f`. -/
def auditing (slots : List SampleSlot) (n f : Nat) : State :=
  { mapped with
    imu := { mapped.imu with burst := some ⟨0, false, 0, none, 0, slots⟩ }
    csv := { mapped.csv with markers := { draws := 2, drawn := none, due := n, drawnIn := 0 } }
    tmu := { mapped.tmu with frameNo := f } }

theorem witness_MarkerDeparts :
    let s := auditing [.missing, .pending] 1 7
    let b : Burst := ⟨0, false, 0, none, 0, [.missing, .pending]⟩
    s.openFrame.imu.burst = some b ∧ b.waiting = false ∧ b.slots.findIdx? SampleSlot.isPending = some 1 ∧
      b.slots.length ≤ s.openFrame.csv.markers.draws ∧ 0 < s.openFrame.csv.markers.due ∧
      (s.cable 0).markerOut = false := by decide +kernel

theorem witness_EchoTimeoutAndSuspension :
    (let s := auditing [.outstanding (.exact 0) 4 false, .pending] 0 7;
      s.openFrame.imu.burst = some ⟨0, false, 0, none, 0, [] ++ .outstanding (.exact 0) 4 false :: [.pending]⟩ ∧
        4 + 4 ≤ s.openFrame.tmu.frameNo ∧ ([] ++ [SampleSlot.pending]).any SampleSlot.isOutstanding = false ∧
        ([] ++ [SampleSlot.pending]).any SampleSlot.isPending = true) ∧
    (let s := (auditing [.outstanding (.exact 0) 4 false] 0 7).modCable 0 fun c => { c with failures := 2 };
      let b : Burst := ⟨0, false, 0, none, 0, [] ++ .outstanding (.exact 0) 4 false :: []⟩
      s.imu.burst = some b ∧ 4 + 4 ≤ s.openFrame.tmu.frameNo ∧ 2 * b.samples.length < b.slots.length ∧
        (s.cable 0).failures = 2 ∧ (s.cable 0).suspended = false) := by decide +kernel

/-- Port 0 at a coming tick with its periodic timer one below its target, changed by `f`. -/
def timing (f : Cable → Cable) : State :=
  ticking (mapped.modCable 0 fun c => f { c with timer := some ⟨59, 60⟩, record := { c.record with period := 1 } })

theorem witness_PeriodicTimerExpires :
    (let s := timing fun c => { c with verdict := .verified };
      s.openFrame.tickDue = true ∧ Judgement.periodic 0 ∉ s.openFrame.moment.done ∧ (s.cable 0).timer = some ⟨59, 60⟩ ∧
        (s.openFrame.cable 0).timer = some ⟨59, 60⟩ ∧ s.openFrame.auditState 0 = .idle ∧
        (s.openFrame.cable 0).verdict = .verified) ∧
    (let s := timing id;
      s.openFrame.auditState 0 = .idle ∧ (s.openFrame.cable 0).verdict = .unverified ∧
        0 < (s.openFrame.cable 0).record.period ∧ (s.openFrame.cable 0).window = none) ∧
    (queued (timing id)).openFrame.auditState 0 ≠ .idle := by decide +kernel

/-- Port 0 with an open window of `n` seconds. -/
def patching (n : Nat) (s : State) : State :=
  s.modCable 0 fun c => { c with window := some ⟨n, false⟩, verdict := .patching }

theorem witness_PatchWindowOpens :
    (mapped.canTake = true ∧ mapped.changePending = false ∧ (mapped.cable 0).window = none ∧
      mapped.membership 0 = some (0, .w) ∧ (mapped.group 0).protected = true ∧ mapped.memberSf 0 .p = false ∧
      mapped.windowOn ((mapped.group 0).portOf .p) = false ∧ (mapped.group 0).operator ≠ .lock) ∧
    (let s := mapped.modGroup 0 fun x => { x with operator := .lock };
      (s.group 0).oldPort = some 0 ∧ (s.group 0).operator = .lock) ∧
    ((patching 1 mapped).canTake = true ∧ ((patching 1 mapped).cable 0).window.isSome = true) ∧
    (1#8).toNat ≤ 1 := by decide +kernel

theorem witness_PatchWindowCloses :
    ((patching 1 mapped).canTake = true ∧ (patching 1 mapped).changePending = false ∧
      ((patching 1 mapped).cable 0).window.isSome = true ∧ (mapped.cable 0).window = none) ∧
    (let s := patching 1 (ticking mapped);
      s.openFrame.tickDue = true ∧ (s.cable 0).window = some ⟨1, false⟩ ∧ (s.openFrame.cable 0).timer = none) ∧
    (let s := patching 2 (ticking mapped);
      s.openFrame.tickDue = true ∧ (s.cable 0).window = some ⟨2, false⟩) := by decide +kernel

theorem witness_CableWrites :
    mapped.canTake = true ∧ (List.replicate 48 0#8).length = 48 ∧
      (∀ c ∈ (List.replicate 48 0#8).take 32, c.toNat < 128) ∧ ((List.replicate 48 0#8).getD 32 0).toNat < 4 ∧
      (cableRecordOf (List.replicate 48 0#8)).dmax = 0 ∧ (∃ c ∈ (List.replicate 48 0x80#8).take 32, 128 ≤ c.toNat) := by
  decide +kernel

/-- Candidate 8 selected in timing state `st`, its sample converting in vernier 1 until clock 8. -/
def tracking (st : TimingState) (f : Tmu → Tmu) : State :=
  let s := converting (some 8) 8 (measuring.modCand 8 fun c => { c with claim := false })
  { s with tmu := f { s.tmu with selected := some 8, state := st } }

theorem witness_LoopLocksAndUnlocks :
    (let s := tracking .acquire fun t => { t with lockCount := 15 }
     s.tmu.selected = some 8 ∧ (s.cand 8).entry.enabled = true ∧
       (s.vernier 1).state = .busy ⟨.fine 0 0 40, 8, some 8, none⟩ ∧ (∀ w, w ≠ 1 → (s.vernier w).due = none) ∧
       (∀ p, (s.cable p).awaited ≠ some 1) ∧ 8 ≤ s.horizon ∧ 8 ≤ s.windowEnd ∧ s.tmu.state = .acquire ∧ s.tmu.lockCount = 15 ∧
       interval (.exact s.multiframeMark) (.fine 0 0 40) = 0) ∧
    (let s := tracking .acquire fun t => { t with lockCount := 14 }
     s.tmu.state = .acquire ∧ s.tmu.lockCount < 15) ∧
    (let s := tracking .acquire fun t => { t with anchor := some 257 }
     s.tmu.state = .acquire ∧ s.tmu.settings.threshold < ((0 : Int) - s.tmu.anchor.getD 0).natAbs) ∧
    (let s := tracking .locked fun t => { t with unlockCount := 3, anchor := some 1025 }
     s.tmu.state = .locked ∧ s.tmu.unlockCount = 3 ∧
       4 * s.tmu.settings.threshold < ((0 : Int) - s.tmu.anchor.getD 0).natAbs) ∧
    (let s := tracking .locked fun t => { t with unlockCount := 2 }
     s.tmu.unlockCount < 3) := by decide +kernel

/-- Candidate 8 enabled with its claim open when the window closes, in a local frame that ends at 4,098. -/
def missing : State := ending 4098 (measuring.modCand 8 fun c => { c with missing := 2 })

/-- Candidate 8 with a sample converting, changed by `f`. -/
def sampling (f : Cand → Cand) : State :=
  converting (some 8) 8 (measuring.modCand 8 fun c => f { c with claim := false, previousR := some 0 })

theorem witness_ReferenceMonitoring :
    ((missing.cand 8).claim = true ∧ missing.windowEnd ≤ missing.horizon ∧
      ((missing.advanceTo missing.windowEnd).cand 8).claim = true ∧
      ((missing.advanceTo missing.windowEnd).cand 8).entry.enabled = true ∧ (missing.cand 8).ref = false ∧
      ((missing.advanceTo missing.windowEnd).cand 8).missing = 2) ∧
    (let s := sampling fun c => { c with drifts := List.replicate 7 0, good := 7, ref := true }
     (s.cand 8).entry.enabled = true ∧ (s.cand 8).claim = false ∧
       (s.vernier 1).state = .busy ⟨.fine 0 0 40, 8, some 8, none⟩ ∧ (∀ w, w ≠ 1 → (s.vernier w).due = none) ∧
       (∀ p, (s.cable p).awaited ≠ some 1) ∧ 8 ≤ s.horizon ∧ 8 ≤ s.windowEnd ∧ (s.cand 8).previousR = some 0 ∧
       ((s.cand 8).drifts ++ [0]).length = 8 ∧ (s.cand 8).ref = true ∧ (s.cand 8).good = 7) ∧
    (let s := sampling fun c => { c with drifts := List.replicate 8 0, good := 6, ref := true }
     ((s.cand 8).drifts.tail ++ [0]).length = 8 ∧ (s.cand 8).ref = true ∧ (s.cand 8).good < 7) ∧
    (let s := sampling fun c => { c with drifts := List.replicate 7 184 }
     (s.cand 8).ref = false ∧ 160 < (((s.cand 8).drifts ++ [0]).sum.tdiv 8).natAbs) := by decide +kernel

/-- Candidate 8 enabled in candidate state `st`, its station input with or without LOS flagged, changed by `f`. -/
def standing (st : CandState) (los : Bool) (f : Cand → Cand) : State :=
  let s := mapped.putAlarm (.stationLos 0) { Alarm.quiet with present := los, flag := los }
  s.modCand 8 fun c => f { c with entry := { c.entry with enabled := true }, state := st }

theorem witness_CandidatesFailAndReturn :
    (let s := standing .available true fun c => { c with holdOff := some 3999 }
     (s.cand 8).state = (s.openFrame.cand 8).state ∧ (s.openFrame.cand 8).entry.enabled = true ∧
       (s.openFrame.cand 8).state = .available ∧ s.openFrame.flagCondition 8 = true ∧
       s.openFrame.verdictCause 8 = false ∧
       800 * s.openFrame.tmu.settings.holdOff ≤ (s.openFrame.cand 8).holdOff.getD 0 + 1) ∧
    (let s := standing .wait true fun c => { c with holdOff := some 3998 }
     (s.openFrame.cand 8).state = .wait ∧ s.openFrame.flagCondition 8 = true ∧
       (s.openFrame.cand 8).holdOff.getD 0 + 1 < 800 * s.openFrame.tmu.settings.holdOff) ∧
    (let s := ticking (standing .wait false fun c => { c with wtr := some 299 })
     s.openFrame.tickDue = true ∧ (s.cand 8).state = .wait ∧ (s.openFrame.cand 8).state = .wait ∧
       (s.openFrame.cand 8).wtr = some 299 ∧ s.openFrame.flagCondition 8 = false ∧
       60 * s.openFrame.tmu.settings.wtr ≤ 299 + 1) ∧
    (let s := ticking (standing .wait false fun c => { c with wtr := some 298 })
     s.openFrame.flagCondition 8 = false ∧ 298 + 1 < 60 * s.openFrame.tmu.settings.wtr) ∧
    (let s := ticking { mapped with tmu := { mapped.tmu with stations := Vector.replicate 2 ⟨true, 7, 0, 130⟩ } }
     s.tmu.stations[(0 : Fin 2)].los = true ∧ s.openFrame.moment.done.contains (.station 0) = false ∧
       1 < s.openFrame.tmu.frameNo ∧ s.tmu.stations[(0 : Fin 2)].run = 7 ∧
       128 ≤ max 0 s.tmu.stations[(0 : Fin 2)].counted) := by decide +kernel

/-- The timing mode set to `m`, with candidate 8 eligible and of quality PRC. -/
def choosing (m : TimingMode) : State :=
  let s := standing .available false fun c =>
    { c with eligible := true, entry := { c.entry with fixedQ := 1 } }
  { s with tmu := { s.tmu with settings := { s.tmu.settings with mode := m } } }

theorem witness_SelectionFollowsTheMode :
    (choosing .auto).SelectionLaw ∧
    ((choosing .auto).moment.opened = false ∧ (choosing .auto).coldRestartDue = false ∧
      (choosing .auto).tmu.started = false ∧ (ending 5 { choosing .auto with tmu :=
        { (choosing .auto).tmu with started := true, frameCount := 7998 } }).tmu.frameCount ≠ 7999) ∧
    (after (.localFrameStart Inputs.frameNone) (choosing .auto)).tmu.selected = some 8 ∧
    (after (.localFrameStart Inputs.frameNone) mapped).tmu.selected = none ∧
    (choosing (.forced 8)).tmu.settings.mode = .forced 8 ∧ (choosing .free).tmu.settings.mode = .free ∧
    (choosing .hold).tmu.settings.mode = .hold ∧
    ((after (.localFrameStart Inputs.frameNone) (choosing (.forced 9))).cand 9).eligible = false := by
  refine ⟨?_, by decide +kernel⟩
  unfold State.SelectionLaw
  decide +kernel

theorem witness_SettingsWrites :
    mapped.canTake = true ∧ 8 ≤ (8#8).toNat ∧ (3#8).toNat % 4 = 3 ∧ (6#8).toNat < 8 ∧ (6#8).toNat % 4 ≠ 3 ∧
      3 < (4#8).toNat ∧ 9 < (10#8).toNat ∧ 1 < (2#8).toNat ∧ (mapped.cand 8).entry.enabled = false ∧
      (measuring.canTake = true ∧ (measuring.cand 8).entry.enabled = true) ∧
      ((choosing .auto).cand 8).state = .available ∧ (choosing .auto).canTake = true ∧
      ((choosing .auto).cand 8).entry.enabled = true ∧ (choosing .auto).SelectionLaw := by
  unfold State.SelectionLaw; decide +kernel

/-- Cell LOS of port 0 LATCHED in mode LATCH, or the profile OFF for it while it is present. -/
def latched : State :=
  let s := { mapped with alu := { mapped.alu with profiles := mapped.alu.profiles.set 0 ⟨.latch, .maj⟩ } }
  s.putAlarm (.port 0 .los) { Alarm.quiet with state := .latched, flag := true, held := some .maj }
def silenced : State :=
  let s := { mapped with alu := { mapped.alu with profiles := mapped.alu.profiles.set 0 ⟨.off, .maj⟩ } }
  s.putAlarm (.port 0 .los) { Alarm.quiet with present := true }

theorem witness_ProfileAndAssignWrites :
    mapped.canTake = true ∧ 16 ≤ (16#8).toNat ∧ (15#8).toNat < 16 ∧ 4 ≤ (4#8).toNat ∧ (3#8).toNat < 4 ∧
      (latched.canTake = true ∧ (latched.entryOf (.port 0 .los)).mode = .latch ∧
        (latched.alarm (.port 0 .los)).state = .latched) ∧
      (silenced.canTake = true ∧ (silenced.entryOf (.port 0 .los)).mode = .off ∧
        (silenced.alarm (.port 0 .los)).present = true) := by decide +kernel

theorem witness_GroupAndUnitWrites :
    (mapped.canTake = true ∧ mapped.changePending = false) ∧
    (let r := groupRecordOf [2, 3, 0, 0, 30]
     r.working = some 2 ∧ r.protection = some 3 ∧ r ≠ (mapped.group 1).record ∧ (1 : Fin 8) ≠ mapped.mci.group ∧
       (mapped.group 1).operator = .none ∧ (mapped.group 1).confirm = none ∧
       (∀ h : Fin 8, h ≠ 1 → (mapped.group h).hasMember 2 = false ∧ (mapped.group h).hasMember 3 = false) ∧
       (∀ p : Fin 8, (mapped.cable p).window = none)) ∧
    (let r := groupRecordOf [0, 1, 0, 0, 30]
     r ≠ (mapped.group 0).record ∧ mapped.mci.group = 0 ∧
       (∀ h : Fin 8, h ≠ 0 → (mapped.group h).hasMember 0 = false ∧ (mapped.group h).hasMember 1 = false)) ∧
    groupRecordOf [2, 3, 12, 0, 30] = (mapped.group 1).record ∧
    ((groupRecordOf [2, 0xFF, 0, 0, 30]).arch = .pair ∧ (groupRecordOf [2, 0xFF, 0, 0, 30]).protection = none) ∧
    (groupRecordOf [0xFF, 0xFF, 0, 0, 30]).working = none ∧ (mapped.group 1).defined = true ∧
    mapped.ssw.storedMap[(40 : Fin 256)] = .mapped 1 0 ∧ (8 ≤ (8#8).toNat ∧ (8#8).toNat ≠ 255) ∧
    16 ≤ (16#8).toNat ∧ (7 : Fin 8) ≠ mapped.mci.group ∧ (mapped.group 7).defined = false ∧
    (let s := { mapped with mci := { mapped.mci with pendingNumber := some 1 } }
     s.canTake = true ∧ s.changePending = true) := by decide +kernel

/-- Map entry 40 unequipped, and entry 41 mapped to line slot 0 of group 1. -/
def unequipped40 : State := { mapped with ssw := { mapped.ssw with storedMap := mapped.ssw.storedMap.set 40 .unequipped } }
def mapped40 (s : State) : State :=
  { s with ssw := { s.ssw with storedMap := s.ssw.storedMap.set 41 (.mapped 1 0) } }

/-- Two entries written to the Slot Map from index 40: the first is applied and the second refused, and then both. -/
theorem witness_WriteOfSeveralEntries :
    (objectOf 2 = some .map ∧ Object.map.writeSize = some 3 ∧ mapped.changePending = false ∧
      (40#8).toNat + 2 ≤ Object.map.entries ∧ Object.map.entries < (255#8).toNat + 2 ∧
      mapped.writeEntry .map 40 [0, 0, 0] = .applied false unequipped40 ∧
      unequipped40.writeEntry .map 41 [1, 7, 0] = .refused .badValue) ∧
    (unequipped40.writeEntry .map 41 [1, 1, 0] = .applied false (mapped40 unequipped40)) ∧
    (let s := { mapped with mci := { mapped.mci with pendingNumber := some 1 } }
     s.changePending = true ∧ Object.port.guarded = false) := by decide +kernel

theorem witness_ReadsAndWrites :
    mapped.canTake = true ∧ mapped.changePending = false ∧ objectOf 11 = none ∧ objectOf 8 = some .alarm ∧
      Object.alarm.entries ≤ (107#8).toNat ∧ Object.alarm.entries < (106#8).toNat + (2#8).toNat ∧
      (106#8).toNat < Object.alarm.entries ∧ (106#8).toNat + (1#8).toNat ≤ Object.alarm.entries ∧
      (objectOf 8).bind Object.writeSize = none ∧ (objectOf 0).bind Object.writeSize = some 6 ∧
      [0#8, 0, 0, 0, 0].length % 6 ≠ 0 := by decide +kernel

/-- Cell LOS of port 0 in state `st` with soak count `n`. -/
def soaking (st : AlarmState) (n : Nat) (flag : Bool) (s : State) : State :=
  s.putAlarm (.port 0 .los) { Alarm.quiet with state := st, soak := some n, flag := flag }

theorem witness_AlarmSoaksEnd :
    (let s := soaking .raising 19999 true mapped
     s.openFrame.queue.records.length < 64 ∧ (s.alarm (.port 0 .los)).state = .raising ∧
       (s.openFrame.alarm (.port 0 .los)).state = .raising ∧ (s.openFrame.alarm (.port 0 .los)).soak = some 19999) ∧
    (let s := soaking .raising 19998 true mapped
     (s.openFrame.alarm (.port 0 .los)).soak = some 19998) ∧
    (let s := ticking (soaking .clearing 9 true latched)
     s.openFrame.queue.records.length < 64 ∧ s.openFrame.tickDue = true ∧
       (s.openFrame.alarm (.port 0 .los)).state = .clearing ∧ (s.openFrame.alarm (.port 0 .los)).soak = some 9 ∧
       (s.openFrame.entryOf (.port 0 .los)).mode = .latch ∧ (s.openFrame.alarm (.port 0 .los)).flag = true) ∧
    (let s := ticking (soaking .clearing 9 false mapped)
     (s.openFrame.alarm (.port 0 .los)).soak = some 9 ∧ (s.openFrame.entryOf (.port 0 .los)).mode ≠ .latch) ∧
    (let s := ticking (soaking .clearing 8 false mapped)
     (s.openFrame.alarm (.port 0 .los)).soak = some 8 ∧ s.openFrame.tickDue = true) := by decide +kernel

/-- The ACO input found pressed `n` times, the press armed or not. -/
def pressed (n : Nat) (armed : Bool) : State :=
  { mapped with alu := { mapped.alu with pressCount := n, pressArmed := armed } }

/-- A queued record of sequence number `n`. -/
def recordAt (n : Nat) : Record := { sequence := n, seconds := 0, frame := 0, report := .restart .cold }

theorem witness_ClearAndCutOff :
    (mapped.canTake = true ∧ 19 ≤ (19#8).toNat ∧ (19#8) ≠ 255) ∧
    ((18#8).toNat < 19 ∧ (18#8).toNat = AlarmId.cal.source.val ∧ (14#8).toNat = AlarmId.cal.kind.val) ∧
    ((0#8).toNat = (AlarmId.port 0 .los).source.val ∧ (latched.alarm (.port 0 .los)).state = .latched ∧
      (latched.alarm (.port 0 .los)).present = false ∧ latched.canTake = true) ∧
    (let s := mapped.modCable 0 fun c => { c with suspended := true, failures := 3 }
     let u := s.putAlarm (.port 0 .aud) { Alarm.quiet with present := true }
     s.canTake = true ∧ (s.cable 0).suspended = true ∧ (8#8).toNat = (AlarmId.port 0 .aud).kind.val ∧
       u.canTake = true ∧ (u.cable 0).suspended = true ∧ (u.alarm (.port 0 .aud)).present = true) ∧
    (let s : State := { latched with queue := { latched.queue with records := List.replicate 64 (recordAt 0) } }
     s.canTake = true ∧ s.queue.lost = 0 ∧ 0 < (after (.clear 1 0 0) s).queue.lost) ∧
    (∀ n : Fin 106, ¬(18 = (alarmOf n).source.val ∧ 0 = (alarmOf n).kind.val)) ∧
    (Judgement.press ∉ (pressed 7 true).openFrame.moment.done ∧ (pressed 7 true).alu.pressArmed = true ∧
      (pressed 7 true).alu.pressCount = 7) ∧
    (pressed 6 true).alu.pressCount ≠ 7 ∧ (pressed 7 false).alu.pressArmed = false := by decide +kernel

/-- `n` records queued and `lost` of them lost. -/
def recorded (n lost : Nat) : State :=
  { mapped with queue :=
      { mapped.queue with
        records := List.replicate n (recordAt 0), lost := lost } }

theorem witness_FetchRemovesTheOldest :
    ((recorded 64 1).canTake = true ∧ (recorded 64 1).queue.records.length ≤ 64 ∧ 0 < (recorded 64 1).queue.lost ∧
      (recorded 64 1).queue.records.take 1 ≠ []) ∧
    ((recorded 64 0).queue.lost = 0 ∧ (recorded 0 1).queue.records.take 1 = []) ∧
    (after (.restart 1) mapped).canTake = false := by decide +kernel

theorem witness_CommandMessages :
    (mapped.mci.rx = .hunt ∧ ([] : List Byte).length ≤ 57 ∧
      crc (3#8 :: [3, 1, 9]) = (crc [3, 3, 1, 9] >>> 8).setWidth 8 ++ (crc [3, 3, 1, 9]).setWidth 8 ∧
      (3#8).toNat = mapped.mci.straps.station.toNat) ∧
    (crc (3#8 :: [4, 1, 9]) = (crc [3, 4, 1, 9] >>> 8).setWidth 8 ++ (crc [3, 4, 1, 9]).setWidth 8 ∧
      ¬((4#8).toNat = mapped.mci.straps.station.toNat ∨ (4#8) = 255)) ∧
    crc (3#8 :: [3, 1, 9]) ≠ 0#8 ++ 0#8 ∧ (0x5A#8) ≠ 0xA5 ∧ (2#8).toNat < 3 ∧ 60 < (61#8).toNat ∧
    (let s := ticking { mapped with mci := { mapped.mci with mstn := some 1 } }
     s.openFrame.tickDue = true ∧ Judgement.mstn ∉ s.openFrame.moment.done ∧ s.mci.mstn = some 1) ∧
    (let s := ticking { mapped with mci := { mapped.mci with mstn := some 2 } }
     s.openFrame.tickDue = true ∧ s.mci.mstn = some 2) ∧
    (after (.restart 1) mapped).mci.restart.isSome = true ∧
    2 ≤ (after (.aco 1) (after (.aco 1) mapped)).mci.replies.length := by decide +kernel

/-- One reply of 10 bytes, of which `n` have been sent, with what waits for it. -/
def replying (n : Nat) (e : ReplyEffect) (f : Mci → Mci) : State :=
  { mapped with mci := f { mapped.mci with replies := [⟨List.replicate 10 0, e⟩], sending := some n } }

theorem witness_RepliesBeginAndLeave :
    ((after (.aco 1) mapped).mci.sending = none ∧ (after (.aco 1) mapped).mci.replies ≠ []) ∧
    (mapped.mci.sending = none ∧ mapped.mci.replies = []) ∧
    (let s := replying 10 .plain id
     s.mci.replies = ⟨List.replicate 10 0, .plain⟩ :: [] ∧ s.mci.sending = some 10 ∧
       (List.replicate 10 (0 : Byte)).length ≤ 10) ∧
    ((replying 9 .plain id).mci.sending = some 9 ∧ 9 < (List.replicate 10 (0 : Byte)).length) ∧
    (let s := replying 10 .deferred fun m => { m with pendingNumber := some 1 }
     s.mci.pendingNumber = some 1 ∧ s.mci.pendingRecord = none) ∧
    (let s := replying 10 .deferred fun m => { m with pendingRecord := some (mapped.group 0).record }
     s.mci.pendingRecord = some (mapped.group 0).record ∧ s.mci.pendingNumber = none) ∧
    ((replying 8 .plain id).moment.opened = false ∧ (replying 8 .plain id).coldRestartDue = false ∧
      (after (.localFrameStart Inputs.frameNone) (replying 8 .plain id)).managementGroup.hasMember 0 = true) ∧
    (let s := releasing (some { (mapped.group 1).record with working := some 3, protection := some 2 })
     s.mci.pendingNumber = none ∧ ((s.openFrame.group 1).portOf .w, (s.openFrame.group 1).portOf .p) ≠ (some 3, some 2)) ∧
    (let s := releasing (some { (mapped.group 1).record with holdOff := 1 })
     ((s.openFrame.group 1).portOf .w, (s.openFrame.group 1).portOf .p) = (some 2, some 3)) ∧
    begun.mci.mlost = true ∧ begun.managementGroup.defined = true := by
  decide +kernel

theorem witness_RestartsWaitForTheirReply :
    mapped.canTake = true ∧
    (let s := replying 10 .restart fun m => { m with restart := some .cold }
     s.mci.replies = ⟨List.replicate 10 0, .restart⟩ :: [] ∧ s.mci.sending = some 10 ∧
       (List.replicate 10 (0 : Byte)).length ≤ 10 ∧ s.mci.restart = some .cold) ∧
    (replying 10 .restart fun m => { m with restart := some .warm }).mci.restart = some .warm := by decide +kernel

/-! ### States of the laws -/

theorem witness_TimingLawsAreKept : (waiting mapped).GeneratorLaw ∧ (waiting mapped).SelectionLaw := by
  unfold State.GeneratorLaw State.SelectionLaw
  decide +kernel

theorem witness_QueueLawsAreKept :
    (waiting (mapped.queueRecord (.restart .cold))).QueueLaw ∧ (waiting mapped).ReplyLaw := by
  unfold State.QueueLaw State.ReplyLaw
  decide +kernel

/-- The part with an empty map. -/
def unequipped : State :=
  let m : Vector MapEntry 256 := Vector.replicate 256 .unequipped
  { waiting mapped with ssw := { mapped.ssw with storedMap := m, mapInUse := m } }

theorem witness_TableLawsAreKept : unequipped.GroupLaw ∧ unequipped.MapLaw ∧ unequipped.SelectorLaw := by
  refine ⟨⟨?_, ?_, ?_⟩, ⟨?_, ?_, ?_⟩, ?_⟩
  · unfold GroupRecord.sound; decide +kernel
  · unfold GroupRecord.hasMember; decide +kernel
  · intro r h; exact absurd h (by simp [unequipped, waiting, mapped, State.blank, Mci.cold])
  · intro i j; simp [unequipped]
  · intro i j; simp [unequipped]
  · intro i g n h; exact absurd h (by simp [unequipped])
  · unfold State.SelectorLaw; decide +kernel

theorem calibrated (v : Fin 4) : (State.vernier (waiting measuring) v).cal = some 40 := by
  revert v; decide +kernel

/-- An audit of port 0 with a departed and a pending slot keeps the markers' law. -/
theorem lawful_audit : (auditing [.outstanding (.exact 0) 7 false, .pending] 1 7).MarkerLaw := by
  refine ⟨by decide +kernel, fun e h => ?_, fun b h => ?_, fun _ => by decide +kernel⟩
  · exact absurd h (by decide +revert +kernel)
  · cases h; decide

theorem witness_TransmittedFrame_markers :
    (let s := auditing [.missing, .pending] 1 7
     let t := after (.localFrameStart Inputs.frameNone) s
     s.moment.opened = false ∧ (t.port 0).txFrame.map (fun f => (frameFields f).mreq) = some true) ∧
    (let t := after (.localFrameStart Inputs.frameNone) (echoing 36)
     (echoing 36).coldRestartDue = false ∧ (t.port 0).txFrame.map (fun f => (frameFields f).mech) = some true) ∧
    (let t := after (.localFrameStart Inputs.frameNone) (echoing 37)
     (t.port 0).txFrame.map (fun f => (frameFields f).ta) = some 0xFFFFFF#24) := by decide +kernel

theorem witness_MeasurementLawsAreKept :
    (waiting measuring).VernierLaw ∧ (queued mapped).AuditLaw ∧
      (auditing [.outstanding (.exact 0) 7 false, .pending] 1 7).MarkerLaw := by
  refine ⟨fun v => ⟨fun n h => ?_, ?_, ?_⟩, ?_, lawful_audit⟩
  · rw [calibrated v] at h; cases h; decide
  · revert v; decide +kernel
  · revert v; decide +kernel
  · unfold State.AuditLaw; decide +kernel

/-- The part with a window open on port 0. -/
def windowed : State := after (.patchOpen 1 0 5 1) mapped

theorem witness_PortLawsAreKept : windowed.WindowLaw ∧ windowed.ReceiverLaw := by
  unfold State.WindowLaw State.ReceiverLaw
  decide +kernel

/-- A property of the 106 cells, from each of them. -/
theorem every_cell (P : AlarmId → Prop) (h : ∀ n : Fin 106, P (alarmOf n)) (a : AlarmId) : P a := by
  have := h a.index
  rwa [alarmOf_index] at this

theorem witness_PresenceLawIsKept : State.PresenceLaw (waiting State.reset) := by
  refine ⟨every_cell _ (by decide +kernel), by decide +kernel⟩

theorem witness_AlarmLawsAreKept : State.FlagLaw (waiting State.reset) ∧ State.RelayLaw (waiting State.reset) := by
  refine ⟨every_cell _ ?_, by unfold State.RelayLaw; decide +kernel⟩
  have h : ∀ n : Fin 106, ((waiting State.reset).entryOf (alarmOf n)).mode ≠ .latch ∧
      ((waiting State.reset).alarm (alarmOf n)).flag =
        (((waiting State.reset).entryOf (alarmOf n)).mode == .auto &&
          ((waiting State.reset).alarm (alarmOf n)).present) := by decide +kernel
  intro n
  obtain ⟨a, b⟩ := h n
  split <;> simp_all

/-! ### Rules met inside one local frame start -/

/-- R17, R181: a record of the local frame start at which a frame begins sets its ATTN. -/
theorem test_attn_of_the_same_start :
    let attn : State → Option Bool := fun s =>
      (((after (.localFrameStart Inputs.frameNone) s).port 0).txFrame).map fun f => (frameFields f).attn
    attn (ticking mapped) = some false ∧ attn (patching 1 (ticking mapped)) = some true := by decide +kernel

/-- R34: a group reset behind an evaluation taken ahead moves the selected port back, and the guard frame begins there. -/
theorem test_guard_of_a_rewritten_group :
    let s := mapped.modGroup 2 fun x => { x with record := { x.record with working := none, protection := none } }
    let t := after (.writeGroup 1 1 [4, 3, 0, 0, 30]) (after (.holdOffExpiry 1 .w .sf) s)
    ((after (.localFrameStart Inputs.frameNone) t).group 1).selectedPort = some 4 ∧
      ((after (.localFrameStart Inputs.frameNone) t).group 1).guard = true := by decide +kernel

/-- R20: in facility loopback a receiver that has just left SYNC sends FF hex, though a first read was taken ahead. -/
theorem test_facility_out_of_sync :
    let s := (reading .terminal [rightFrame]).modPort 0 fun x =>
      { x with settings := { x.settings with loopback := .facility } }
    ((after (.localFrameStart (written 364)) s).port 0).txFrame = some frameOfOnes := by decide +kernel

/-! ### Further clauses: requests, records, outputs and deliveries -/

theorem witness_TopRequests :
    (let y := (after (.localFrameStart Inputs.frameNone) (failing id)).group 0
     y.sfW.after = true ∧ y.top = .failW ∧ y.top.code = 12 ∧ y.selector = .p) ∧
    (let y := protecting fun x => { x with selector := .p, top := .failW }
     y.top = .wait ∧ y.restore = .wait ∧ y.wtrCount = some 0 ∧ y.selector = .p) ∧
    (let y := protecting fun x => { x with selector := .p, top := .force, record := { x.record with revertive := false } }
     y.top = .hold ∧ y.restore = .hold ∧ y.wtrCount = none) ∧
    (let y := protecting fun x => { x with selector := .p, top := .force }; y.top = .none ∧ y.selector = .w) := by
  decide +kernel

theorem witness_HoldOffCounts :
    (let s := failing fun x => { x with record := { x.record with holdOff := 1 }, sfW := ⟨798, false⟩, sdW := ⟨7, true⟩ }
     let y := (after (.localFrameStart Inputs.frameNone) s).group 0
     s.replyDone = false ∧ s.tmu.started = false ∧ y.sfW = ⟨799, false⟩ ∧ y.sdW = ⟨0, false⟩) ∧
    (let s := mapped.modGroup 1 fun x => { x with record := { x.record with protection := none } }
     (s.group 1).portOf .p = none ∧ s.memberSf 1 .p = false ∧ (s.group 1).portOf .w = some 2) := by decide +kernel

theorem witness_OutrankedMan :
    (let y := protecting fun x => { x with operator := .manP }; y.operator = .manP ∧ y.top = .manP) ∧
    (let y := protecting fun x => { x with operator := .manP, markP := true }; y.operator = .none ∧ y.top = .patchP) ∧
    (let y := protecting fun x =>
       { x with
         operator := .manW, accepted := some ⟨8, .p, true, .pair, .bothEnds, 0⟩,
         record := { x.record with direction := .bothEnds, revertive := false } }
     y.operator = .none) := by decide +kernel

/-- The last slot of an ad-hoc audit of port 0, of verdict TRACE-OK, is outstanding beyond its time. -/
def lastSlot : State :=
  let s := (auditing [sampleOf 1845 false, .outstanding (.exact 0) 4 false] 0 7).modCable 0 fun c =>
    { c with verdict := .traceOk, record := { c.record with dmin := 1000, dmax := 1844 } }
  { s with imu := { s.imu with burst := s.imu.burst.map fun b => { b with adHoc := true } } }

theorem witness_AuditRecord :
    (lastSlot.openFrame.imu.burst.map Burst.slots = some ([sampleOf 1845 false] ++ .outstanding (.exact 0) 4 false :: [])) ∧
    (let t := after .echoTimeout lastSlot
     t.imu.burst = none ∧ t.queue.news.measure = true ∧ (t.cable 0).verdict = .length ∧ t.queue.records.length < 64 ∧
       t.queue.records.map (fun r => r.report.coded.2.1) = [115]) := by decide +kernel

/-- Port 0 with the dark-patch flag on. -/
def darkened : State := mapped.modCable 0 fun c => { c with record := { c.record with dark := true } }

theorem witness_TransmitDisable :
    (darkened.canTake = true ∧ darkened.txDisable 0 = false ∧ (after (.patchOpen 1 0 5 1) darkened).txDisable 0 = true) ∧
    ((after (.patchOpen 1 0 5 1) mapped).txDisable 0 = false) ∧
    ((after (.patchClose 1 0 0 0) (after (.patchOpen 1 0 5 1) darkened)).txDisable 0 = false) ∧
    ((after (.writePort 1 0 [0, 5, 0, 1, 2, 0]) darkened).txDisable 0 = true) ∧
    ((after (.patchOpen 1 0 5 1) mapped).queue.records.map Record.report = [.patch 0 .openOverride]) := by decide +kernel

theorem witness_ReferenceWtrOfZero :
    let zero (s : State) : State := { s with tmu := { s.tmu with settings := { s.tmu.settings with wtr := 0 } } }
    let s := ticking (standing .wait true fun c => { c with wtr := some 0 })
    (s.openFrame.tickDue = true ∧ s.openFrame.flagCondition 8 = true ∧ (s.openFrame.cand 8).wtr = some 0 ∧
      (s.openFrame.cand 8).state = .wait ∧ 0 < s.tmu.settings.wtr) ∧
    ((zero s).tmu.settings.wtr = 0 ∧ ((after (.referenceWtrExpiry 8) (zero s)).cand 8).state = .available) := by
  decide +kernel

theorem witness_ReferenceRecord :
    (let t := after (.localFrameStart Inputs.frameNone) (choosing .auto)
     (choosing .auto).mci.restart = none ∧ (choosing .auto).tmu.selected ≠ t.tmu.selected ∧
       t.queue.news.timing = true ∧ t.queue.records.length < 64) ∧
    (let s := tracking .acquire fun t => { t with lockCount := 15 }
     (after .enterLocked s).queue.records.map Record.report = [.refsel .locked (some 8)]) := by decide +kernel

/-- R184: the management group's new record exchanges its members, of which the new working one has LOS. -/
def exchanging : State :=
  let s := releasing (some { (mapped.group 1).record with working := some 3, protection := some 2 })
  s.putAlarm (.port 3 .los) { Alarm.quiet with present := true, flag := true }

theorem test_source_port_follows_the_evaluation :
    (exchanging.openFrame.evaluated 1).selector = .w ∧
      (after .deferredChangeApplied exchanging).mci.source = some 2 ∧
      (after (.localFrameStart Inputs.frameNone) (after .deferredChangeApplied exchanging)).mci.source = some 2 := by
  decide +kernel

/-- R80: the held bridged field of an unprotected PAIR group after a write. -/
theorem test_held_bridged_field :
    let y := (after (.writeGroup 1 1 [2, 0xFF, 0, 0, 30]) mapped).group 1
    y.defined = true ∧ y.protected = false ∧ y.txBridged = true ∧ y.bridge = false := by decide +kernel

/-- A presence that finds its cell LATCHED, RAISING, ACTIVE and CLEARING. -/
theorem witness_Delivered :
    (let t := after (.signalDetectLow 0) latched
     (latched.port 0).loopback ≠ .terminal ∧ (latched.alarm (.port 0 .los)).present = false ∧
       (t.alarm (.port 0 .los)).state = .active ∧ t.alu.relays.aud = true ∧ t.queue.records.length < 64 ∧
       t.queue.records.map Record.report = [.alarm (.port 0 .los) .raised .maj none]) ∧
    (let s := mapped.putAlarm (.port 0 .los) { Alarm.quiet with state := .clearing, soak := some 5 }
     let t := after (.signalDetectLow 0) s
     (t.alarm (.port 0 .los)).state = .active ∧ (t.alarm (.port 0 .los)).soak = none ∧ t.queue.records = []) ∧
    (let light (st : AlarmState) : State := (debounced 7).putAlarm (.port 1 .los) { Alarm.fresh true with state := st }
     let t := fun st => after (.losDebounceEnd 1) (light st)
     ((t .raising).alarm (.port 1 .los)).state = .idle ∧ ((t .active).alarm (.port 1 .los)).state = .clearing ∧
       ((t .active).alarm (.port 1 .los)).soak = some 0) := by decide +kernel

theorem witness_Undisturbed : mapped.moment.opened = false ∧ mapped.coldRestartDue = false ∧ mapped.Undisturbed := by
  unfold State.Undisturbed; decide +kernel


/-! ### Judgements taken ahead of the local frame start -/

/-- Port 0 at its twenty-fourth local frame start in SYNC, judged ahead, and then without light. -/
def lofEnded : State := after (.lofAbsent 0) (synced 0 (fun x => { x with inCount := 23 }) mapped)
def dimmed : State := after (.signalDetectLow 0) lofEnded

/-- R6: a port judged ahead is not judged again by the same start, though it has left SYNC in between. -/
theorem test_lof_is_judged_once :
    let t := after (.localFrameStart Inputs.frameNone) dimmed
    (lofEnded.port 0).lof = false ∧ Judgement.lof 0 ∈ dimmed.openFrame.moment.done ∧ (dimmed.port 0).align = .hunt ∧
      (t.port 0).inCount = 24 ∧ (t.port 0).outCount = 0 := by decide +kernel

/-- A candidate whose hold-off or WTR has been judged ahead. -/
theorem witness_CandidatesJudgedAhead :
    (let s := standing .available true fun c => { c with holdOff := some 3999 }
     let t := after (.referenceHoldOffExpiry 8) s
     Judgement.cand 8 ∉ s.openFrame.moment.done ∧ Judgement.cand 8 ∈ t.openFrame.moment.done ∧
       (t.cand 8).holdOff = some 4000 ∧
       ((after (.localFrameStart Inputs.frameNone) t).cand 8).holdOff = some 4000) ∧
    (let s := ticking (standing .wait false fun c => { c with wtr := some 299 })
     Judgement.wtr 8 ∉ s.openFrame.moment.done ∧
       Judgement.wtr 8 ∈ (after (.referenceWtrExpiry 8) s).openFrame.moment.done) := by decide +kernel

/-- The last slot of an audit of port 1 found, and one with a slot behind it, their stamp in vernier 1 until 4,097. -/
def finding (f : BitVec 24) (after : List SampleSlot) : State :=
  let s := measuring.modVernier 1 fun v => { v with state := .busy ⟨.coarse 6000, 4097, none, some f⟩ }
  { s with imu := { s.imu with burst := some ⟨1, false, 122, none, 0, [.missing] ++ .outstanding (.exact 0) 0 true :: after⟩ } }

theorem witness_StampResolvesTheSlot :
    (let s := finding 0x800005 [.pending]
     (s.vernier 1).state = .busy ⟨.coarse 6000, 4097, none, some 0x800005⟩ ∧ 4097 ≤ s.horizon ∧
       (∀ w, w ≠ 1 → (s.vernier w).due = none) ∧
       ([SampleSlot.missing] ++ [SampleSlot.pending]).any SampleSlot.isOutstanding = false ∧
       (after (.stampComplete 1) s).imu.burst.isSome = true) ∧
    (let s := finding 0xFFFFFF []
     ([SampleSlot.missing] ++ []).any SampleSlot.isPending = false ∧ s.imu.burst.isSome = true ∧
       (after (.stampComplete 1) s).imu.burst = none ∧
       ((after (.stampComplete 1) s).cable 1).lastResult.isSome = true) := by decide +kernel

/-! ### PSF at a local frame start, changed fields of CABLE, QOVF at a write, and entries as they are read -/

/-- Group 0 in BOTH-ENDS with an accepted value of group `n` that names channel `m`, changed by `f`, after one start. -/
def confronted (n : BitVec 3) (m : Member) (f : Group → Group) : Group :=
  protecting fun x => f { x with
    record := { x.record with direction := .bothEnds }, accepted := some ⟨0, m, true, .pair, .bothEnds, n⟩ }

/-- R75 to R78: a mismatch, the timer started, restarted, counting and expiring, and the agreement count. -/
theorem witness_PsfAtFrameStarts :
    (let y := confronted 1 .w fun x => { x with psf := some .timeout, agreement := 7 }
     y.protected = true ∧ y.psf = some .mismatch ∧ y.agreement = 0 ∧ y.protocol = .fallback) ∧
    (let y := confronted 0 .p id; y.psf = none ∧ y.confirm = some 0 ∧ y.protocol = .switching) ∧
    (let y := confronted 0 .p fun x => { x with confirm := some 5, txChannel := .p }; y.confirm = some 0) ∧
    (let y := confronted 0 .p fun x => { x with confirm := some 398 }; y.psf = none ∧ y.confirm = some 399) ∧
    (let y := confronted 0 .p fun x => { x with confirm := some 399 }; y.psf = some .timeout ∧ y.confirm = none) ∧
    (let y := confronted 0 .w fun x => { x with confirm := some 399 }; y.psf = none ∧ y.confirm = none) ∧
    (let y := confronted 0 .w fun x => { x with psf := some .timeout, agreement := 398 }
     y.psf = some .timeout ∧ y.agreement = 399) ∧
    (let y := confronted 0 .w fun x => { x with psf := some .timeout, agreement := 399 }
     y.psf = none ∧ y.agreement = 0) ∧
    (let y := confronted 0 .p fun x => { x with psf := some .timeout, agreement := 399 }
     y.psf = some .timeout ∧ y.agreement = 0) := by decide +kernel

/-- Port 0 with an accepted trace and verdict `v`, and its record written with the change `f`. -/
def traced (v : Verdict) : State := mapped.modCable 0 fun c => { c with accepted := some someTrace, verdict := v }
def rewritten (f : CableRecord → CableRecord) (s : State) : State :=
  after (.writeCable 1 0 (f (s.cable 0).record).bytes) s

theorem witness_CableFields :
    ((traced .length).canTake = true ∧ (mapped.cable 0).accepted = none) ∧
    ((rewritten (fun r => { r with transmitted := someTrace }) (traced .length)).cable 0).verdict = .looped ∧
    ((rewritten (fun r => { r with check := true, expected := Vector.replicate 16 0x42 }) (traced .length)).cable
      0).verdict = .misconnected ∧
    (let t := rewritten (fun r => { r with expected := someTrace, dmax := 9 }) (traced .length)
     (t.cable 0).verdict = .traceOk ∧ t.csv.audits = [⟨0, false, none⟩]) ∧
    (let t := rewritten (fun r => { r with expected := someTrace }) (traced .patching)
     (t.cable 0).verdict = .patching ∧ (t.cable 0).pendingVerdict = some .verified) ∧
    (let s := (traced .traceOk).modCable 0 fun c => { c with record := { c.record with dmax := 9 } }
     ((rewritten (fun r => { r with dmax := 0 }) s).cable 0).verdict = .verified ∧
       (rewritten (fun r => { r with dmax := 8 }) s).csv.audits = [⟨0, false, none⟩]) ∧
    (let t := rewritten (fun r => { r with period := r.period + 1 }) mapped
     (t.cable 0).timer.isSome = true ∧ t.csv.dither ≠ mapped.csv.dither ∧
       ((rewritten (fun r => { r with period := 0 }) t).cable 0).timer = none) := by decide +kernel

/-- LOS of port 0 ACTIVE, QOVF CLEARING at severity CRIT in mode REPORT, and 64 records queued. -/
def overflowing : State :=
  let s := (recorded 64 0).putAlarm (.port 0 .los) { Alarm.quiet with present := true, state := .active }
  let s := s.putAlarm .qovf { Alarm.quiet with state := .clearing, soak := some 0 }
  { s with alu := { s.alu with profiles := s.alu.profiles.set 15 ⟨.report, .crit⟩ } }

/-- R169, R176: the CLEARED record of a cell taken to OFF is the first one lost, and QOVF energizes AUD. -/
theorem witness_QovfEnergizesAud :
    let t := after (.writeProfile 1 0 [0]) overflowing
    overflowing.canTake = true ∧ overflowing.queue.lost = 0 ∧ 0 < t.queue.lost ∧
      (overflowing.alarm .qovf).present = false ∧ (overflowing.entryOf .qovf).mode = (t.entryOf .qovf).mode ∧
      (t.entryOf .qovf).severity = .crit ∧ (t.alarm .qovf).state = .active ∧
      overflowing.alu.relays.aud = false ∧ t.alu.relays.aud = true := by decide +kernel

/-- R204, R199: the relays at rest, XT 800, DT 8 and DM 7 of a port (R23), and the absent OFS of no ad-hoc audit. -/
theorem test_entries :
    mapped.entry .alarm 106 = [0, 0, 0, 0, 0, 0, 0, 0] ∧
    (mapped.entry .port 0).take 5 = [3, 32, 0, 8, 7] ∧
    ((mapped.entry .measurement 0).drop 10).take 2 = [0x80, 0] := by decide +kernel

/-! ## Witnesses of the clauses on verdicts, marks, candidates and records -/

/-- Group 0 with both patch marks, and candidate 0 enabled and AVAILABLE, changed by `f`. -/
def marked (f : Cand → Cand) (s : State) : State :=
  (s.modGroup 0 fun x => { x with markW := true, markP := true }).modCand 0 fun c =>
    f { c with entry := { c.entry with enabled := true }, state := .available }

/-- R55, R138: VERIFIED removes the mark of the member on port 0 alone, and LOOPED fails the candidate of port 0. -/
theorem witness_MarksAndCandidateFollow :
    (let t := after (.traceAccepted 0) (marked id (tracing fun c => { c with record := { c.record with dmax := 0 } }))
     (t.cable 0).verdict = .verified ∧ (t.group 0).markW = false ∧ (t.group 0).markP = true ∧
       (t.cand 0).state = .available) ∧
    (let t := after (.traceAccepted 0)
       (marked id (tracing fun c => { c with record := { c.record with transmitted := someTrace } }))
     (t.cable 0).verdict = .looped ∧ (t.group 0).markW = true ∧ (t.cand 0).state = .failed) ∧
    (let t := after (.traceAccepted 0) (marked (fun c => { c with state := .failed }) (tracing fun c =>
       { c with verdict := .looped, record := { c.record with dmax := 0 } }))
     (t.cand 0).state = .wait ∧ (t.cand 0).wtr = some 0) ∧
    ((after (.patchOpen 1 0 5 1) (marked id mapped)).cand 0).state = .failed ∧
    (let t := after (.patchClose 1 0 0 0) (marked (fun c => { c with state := .failed }) (patching 9 mapped))
     (t.group 0).markW = true ∧ (t.cand 0).state = .wait ∧ (t.cable 0).timer = none) ∧
    (let t := after (.patchClose 1 0 0 0) (marked id ((patching 9 mapped).modCable 0 fun c =>
       { c with pendingVerdict := some .verified, record := { c.record with period := 2 } }))
     (t.group 0).markW = false ∧ (t.cable 0).timer.map PeriodicTimer.count = some 0) := by decide +kernel

/-- R111, R120, R124: audits of port 0 that fail below the third in a row, or complete in a window. -/
theorem witness_AuditEnds :
    (let s := (auditing [.outstanding (.exact 0) 4 false] 0 7).modCable 0 fun c =>
       { c with failures := 1, record := { c.record with period := 1 } }
     let t := after .echoTimeout s
     (s.openFrame.cable 0).failures < 2 ∧ (s.openFrame.cable 0).window = none ∧ (t.cable 0).failures = 2 ∧
       (t.cable 0).suspended = false ∧ (t.cable 0).timer.map (fun x => (x.count, x.target / 60)) = some (0, 1)) ∧
    (let s := lastSlot.modCable 0 fun c =>
       { c with verdict := .patching, window := some ⟨9, false⟩, pendingVerdict := some .traceOk }
     ((after .echoTimeout s).cable 0).verdict = .patching ∧
       ((after .echoTimeout s).cable 0).pendingVerdict = some .length) := by decide +kernel

/-- R148: a sample in LOCKED above and not above four times the threshold. -/
theorem witness_LockedSample :
    (let t := after (.stampComplete 1) (tracking .locked fun t => { t with unlockCount := 2, anchor := some 1025 })
     t.tmu.state = .locked ∧ t.tmu.unlockCount = 3) ∧
    (let t := after (.stampComplete 1) (tracking .locked fun t => { t with unlockCount := 2, anchor := some 1024 })
     t.tmu.state = .locked ∧ t.tmu.unlockCount = 0) := by decide +kernel

/-- R140: of two eligible candidates the better rank, then the lower priority number, then the lower number wins. -/
theorem witness_OrderOfTheCandidates :
    let both : BitVec 4 → Nat → State := fun q n =>
      let s := (choosing .auto).modCand 8 fun c => { c with entry := { c.entry with priority := 1 } }
      s.modCand 9 fun c =>
        { c with eligible := true, state := .available, entry := { (s.cand 8).entry with fixedQ := q, priority := n } }
    let chosen : State → Option (Fin 10) := fun s => (after (.localFrameStart Inputs.frameNone) s).tmu.selected
    chosen (both 1 1) = some 8 ∧ chosen (both 2 0) = some 8 ∧
      chosen (both 1 0) = some 9 := by decide +kernel

/-- R183: a port outside the management group sends both management bytes as zero. -/
theorem witness_ManagementBytes :
    begun.managementGroup.hasMember 7 = false ∧ begun.managementGroup.hasMember 0 = true ∧
      (begun.port 7).txFrame.map (fun f => (f.overhead[11], f.overhead[12])) = some (0, 0) := by decide +kernel

/-- R192: requests on an unnamed group are refused for the pending change first. -/
theorem witness_PendingChange :
    let s := { mapped with mci := { mapped.mci with pendingNumber := some 1 } }
    s.canTake = true ∧ s.changePending = true ∧
      ([Instr.requestLock 1 8, .patchOpen 1 8 5 0, .writeMap 1 0 [1, 0, 0]].map fun i =>
        (after i s).mci.replies.map fun r => r.bytes.getD 5 0) = [[6], [6], [6]] := by decide +kernel

/-- R203: the bytes of an alarm record of SLIP of port 3 at severity MIN, and of an AUDIT record of port 5. -/
theorem test_record_bytes :
    Record.bytes ⟨258, 66051, 17, .alarm (.port 3 .slip) .held .min (some 5)⟩ =
      [1, 2, 0, 1, 2, 3, 0x40, 0x11, 37, 0x80, 0, 5] ∧
    Record.bytes ⟨1, 2, 7999, .audit 5 ⟨true, 4, 3, some 1845, some 2, true, false, false, true⟩⟩ =
      [0, 1, 0, 0, 0, 2, 0x9F, 0x3F, 120, 0x90, 0x07, 0x35] := by decide +kernel

end Sys2Proof.Tests
end

section
/-!
The delay of a sample (R95): one equation for each side of `0 ≤ x`, and the inputs it keeps.
-/
namespace Sys2Proof.Machine

open Sys2Proof

section
variable {rt ta ofs : Int} {coarse assumed : Bool}

theorem delaySample_of_nonneg (hx : 0 ≤ rt - ta - ofs) :
    delaySample rt ta ofs coarse assumed =
      { rt, ta, delay := min ((rt - ta - ofs + 1) / 2).toNat 1048575, coarse, assumed, implausible := false } :=
  if_pos hx

theorem delaySample_of_neg (hx : rt - ta - ofs < 0) :
    delaySample rt ta ofs coarse assumed =
      { rt, ta, delay := 0, coarse, assumed, implausible := true } :=
  if_neg (Int.not_le.mpr hx)

/-- R95 puts into the sample what it is given, whether or not the mark is set. -/
theorem delaySample_keeps_inputs :
    (delaySample rt ta ofs coarse assumed).rt = rt ∧ (delaySample rt ta ofs coarse assumed).ta = ta ∧
      (delaySample rt ta ofs coarse assumed).coarse = coarse ∧
      (delaySample rt ta ofs coarse assumed).assumed = assumed := by
  by_cases hx : 0 ≤ rt - ta - ofs
  · rw [delaySample_of_nonneg hx]
    exact ⟨rfl, rfl, rfl, rfl⟩
  · rw [delaySample_of_neg (Int.not_le.mp hx)]
    exact ⟨rfl, rfl, rfl, rfl⟩

/-- The model clamps the half as a natural number; a half of `x ≥ 0` is not negative, so no value is lost. -/
theorem delaySample_delay_of_nonneg (hx : 0 ≤ rt - ta - ofs) :
    ((delaySample rt ta ofs coarse assumed).delay : Int) = min ((rt - ta - ofs + 1) / 2) 1048575 := by
  have half_kept : (((rt - ta - ofs + 1) / 2).toNat : Int) = (rt - ta - ofs + 1) / 2 :=
    Int.toNat_of_nonneg (by omega)
  rw [delaySample_of_nonneg hx]
  dsimp only
  omega

end

/-- Settles O29: the marks and times pass through, and each sign of `x = RT − TA − OFS` has its own equation. -/
theorem delayOfASample : Obligations.DelayOfASample := by
  unfold Obligations.DelayOfASample
  intro rt ta ofs coarse assumed
  obtain ⟨hrt, hta, hcoarse, hassumed⟩ := delaySample_keeps_inputs (rt := rt) (ta := ta) (ofs := ofs)
    (coarse := coarse) (assumed := assumed)
  refine ⟨hrt, hta, hcoarse, hassumed, fun hx => ⟨?_, ?_⟩, fun hx => ?_⟩
  · rw [delaySample_of_nonneg hx]
  · exact delaySample_delay_of_nonneg hx
  · rw [delaySample_of_neg hx]
    exact ⟨rfl, rfl⟩

end Sys2Proof.Machine
end

section
/-!
FETCH (R177, R178). A delivery of absence writes its own cell and the relays only, so what a FETCH with lost records
does is one write of the Record Queue (the LOST record) and one of the Alarm Unit (the end of QOVF).
-/
namespace Sys2Proof.Machine

open Sys2Proof

/-! ### Delivery of absence (R153) -/

theorem arrive_flag (m : Mode) (b : Bool) (x : Alarm) : (x.arrive m b).flag = flagAfter m b x.flag := by
  unfold Alarm.arrive; dsimp only; split <;> rfl

/-- Absence sets no action flag (R160). -/
theorem flag_of_flagAfter_absent {m : Mode} {f : Bool} (h : flagAfter m false f = true) : f = true := by
  cases m with
  | latch => simpa [flagAfter] using h
  | off | report | auto => exact absurd h Bool.false_ne_true

/-- Absence takes no cell into ACTIVE (R156 to R159). -/
theorem active_of_arrive_absent {m : Mode} {x : Alarm} (h : (x.arrive m false).state = .active) :
    x.state = .active := by
  unfold Alarm.arrive at h
  dsimp only at h
  split at h <;> simp_all

/-- A flag that is not newly set leaves the received switch signals alone (R67). -/
theorem flagSetHook_of_not_set {a : AlarmId} {x y : Bool} (h : y = true → x = true) (s : State) :
    s.flagSetHook a x y = s := by
  have not_set : (y && !x) = false := by cases y <;> simp_all
  unfold State.flagSetHook
  split
  · simp [not_set]
  · rfl

/-- Absence of a present cell rings no bell, ends no switch signal and hands over no record: it writes the cell. -/
theorem deliver_absent {a : AlarmId} {s : State} (h : (s.alarm a).present = true) :
    s.deliver a false = s.putAlarm a ((s.alarm a).arrive (s.entryOf a).mode false) := by
  have no_new_flag : ((s.alarm a).arrive (s.entryOf a).mode false).flag = true → (s.alarm a).flag = true := by
    rw [arrive_flag]
    exact flag_of_flagAfter_absent
  have no_entry : ((s.alarm a).arrive (s.entryOf a).mode false).state = .active → (s.alarm a).state = .active :=
    active_of_arrive_absent
  have no_bell : ¬(((s.alarm a).arrive (s.entryOf a).mode false).state == .active &&
      (s.alarm a).state != .active) = true := by simpa using no_entry
  have no_record : ¬((s.alarm a).state == .latched &&
      ((s.alarm a).arrive (s.entryOf a).mode false).state == .active) = true := by
    simp only [Bool.and_eq_true, beq_iff_eq]
    rintro ⟨hl, ha⟩
    exact absurd (hl.symm.trans (no_entry ha)) (by decide)
  have changed : ¬(s.alarm a).present = false := by simp [h]
  unfold State.deliver State.deliverValue State.deliverWith
  simp only [if_neg changed, Option.none_or, flagSetHook_of_not_set no_new_flag]
  rw [if_neg no_record, if_neg no_bell]

/-- What a delivery of absence never writes: everything but the Alarm Unit. -/
def absenceKeeps : List Block :=
  [.pending, .inputs, .moment, .ports, .ssw, .records, .groups, .imu, .csv, .tmu, .queue, .mci]

theorem agree_deliver_absent (a : AlarmId) (s : State) : Agree absenceKeeps s (s.deliver a false) := by
  cases h : (s.alarm a).present with
  | false => rw [deliver_same h]; exact .refl _ _
  | true =>
    rw [deliver_absent h]
    intro b hb
    cases b with
    | alu => exact absurd hb (by decide)
    | _ => rfl

theorem alarm_deliver_absent_other {a c : AlarmId} (h : c ≠ a) (s : State) :
    (s.deliver a false).alarm c = s.alarm c := by
  cases hp : (s.alarm a).present with
  | false => rw [deliver_same hp]
  | true => rw [deliver_absent hp, State.alarm_putAlarm_other _ h.symm]

/-! ### The commands and their replies (R190) -/

theorem takeCommand_of_canTake {s : State} (h : s.canTake = true) (tag code : Byte) (args : List Byte) :
    s.takeCommand tag code args = State.answered tag code (s.execute code args).1 (s.execute code args).2 :=
  if_pos h

theorem queue_takeCommand_of_dropped {s : State} (h : s.canTake = false) (tag code : Byte) (args : List Byte) :
    (s.takeCommand tag code args).queue = s.queue := by
  rw [State.takeCommand, if_neg (by simp [h])]

/-- What queuing a reply never writes: everything but the management channel. -/
def answerKeeps : List Block :=
  [.pending, .inputs, .moment, .ports, .ssw, .records, .groups, .imu, .csv, .tmu, .alu, .queue]

theorem agree_answered (tag code : Byte) (a : Answer) (s : State) :
    Agree answerKeeps s (State.answered tag code a s) := by
  intro b hb
  cases b with
  | mci => exact absurd hb (by decide)
  | _ => rfl

/-! ### The LOST record (R178) -/

theorem agree_of_queue {s t : State} (h : t = { s with queue := t.queue }) : Agree queueKeeps s t := by
  intro b hb
  rw [h]
  cases b with
  | queue => exact absurd hb (by decide)
  | _ => rfl

/-- The state with the LOST record behind the others and nothing lost, QOVF as it was. -/
def State.lostReported (s : State) : State :=
  { s with queue :=
      { records := s.queue.records ++
          [{ sequence := s.queue.sequence, seconds := s.tmu.seconds, frame := s.tmu.frameCount,
             report := .lost s.queue.lost }]
        sequence := (s.queue.sequence + 1) % 65536
        lost := 0
        news := { s.queue.news with newRecord := true } } }

theorem reportLost_of_none {s : State} (h : s.queue.lost = 0) : s.reportLost = s := by simp [State.reportLost, h]

theorem reportLost_of_lost {s : State} (h : 0 < s.queue.lost) (room : s.queue.records.length < Config.queuePlaces) :
    s.reportLost = s.lostReported.deliver .qovf false := by
  simp [State.reportLost, State.queueRecord, State.lostReported, h, room]

/-! ### FETCH (R177) -/

/-- The state with the oldest `m` records gone from the queue. -/
def State.fetched (m : Nat) (s : State) : State :=
  { s with queue := { s.queue with records := s.queue.records.drop m } }

/-- The answer of a FETCH of `n` that leaves `held` records: the count and the records taken. -/
def State.fetchAnswer (n held : Nat) (s : State) : Answer :=
  { Answer.plain (if clampNat n 1 4 = n then .done else .clamped) with
    data := BitVec.ofNat 8 held :: (s.queue.records.take (clampNat n 1 4)).flatMap Record.bytes }

/-- The state after a FETCH: the LOST record is queued where a place has become free. -/
def State.afterFetch (n : Nat) (s : State) : State :=
  if s.queue.records.take (clampNat n 1 4) = [] then s.fetched (clampNat n 1 4)
  else (s.fetched (clampNat n 1 4)).reportLost

theorem doneOr_bne (m n : Nat) : doneOr (m != n) = if m = n then .done else .clamped := by
  by_cases h : m = n <;> simp [doneOr, h]

theorem doFetch_eq (n : Nat) (s : State) :
    s.doFetch n = (s.fetchAnswer n (s.afterFetch n).queue.records.length, s.afterFetch n) := by
  simp only [State.doFetch, doneOr_bne, List.isEmpty_iff]
  rfl

theorem exec_fetch_of_canTake {s : State} (h : s.canTake = true) (tag n : Byte) :
    exec (.fetch tag n) s =
      .next (State.answered tag 6 (s.fetchAnswer n.toNat (s.afterFetch n.toNat).queue.records.length)
        (s.afterFetch n.toNat)) := by
  have executed : s.execute 6 [n] = s.doFetch n.toNat := rfl
  calc exec (.fetch tag n) s = .next (s.takeCommand tag 6 [n]) := rfl
    _ = _ := by rw [takeCommand_of_canTake h, executed, doFetch_eq]

theorem afterFetch_of_nothing_to_report {n : Nat} {s : State}
    (h : s.queue.lost = 0 ∨ s.queue.records.take (clampNat n 1 4) = []) :
    s.afterFetch n = s.fetched (clampNat n 1 4) := by
  unfold State.afterFetch
  split
  · rfl
  · next taken => exact reportLost_of_none (h.resolve_right taken)

theorem fetched_has_room {m : Nat} {s : State} (held : s.queue.records.length ≤ 64)
    (taken : s.queue.records.take m ≠ []) : (s.fetched m).queue.records.length < Config.queuePlaces := by
  have some_taken : 0 < (s.queue.records.take m).length := List.length_pos_iff.mpr taken
  rw [List.length_take] at some_taken
  change (s.queue.records.drop m).length < 64
  rw [List.length_drop]
  omega

theorem afterFetch_of_lost {n : Nat} {s : State} (held : s.queue.records.length ≤ 64) (lost : 0 < s.queue.lost)
    (taken : s.queue.records.take (clampNat n 1 4) ≠ []) :
    s.afterFetch n = (s.fetched (clampNat n 1 4)).lostReported.deliver .qovf false := by
  rw [State.afterFetch, if_neg taken]
  exact reportLost_of_lost lost (fetched_has_room held taken)

/-- A FETCH that reports lost records writes the Record Queue and the Alarm Unit. -/
theorem agree_fetch_lost (m : Nat) (s : State) :
    Agree [.pending, .inputs, .moment, .ports, .ssw, .groups, .imu, .csv, .tmu, .mci] s
      ((s.fetched m).lostReported.deliver .qovf false) := by
  have by_queue : Agree queueKeeps s (s.fetched m).lostReported := agree_of_queue rfl
  exact (by_queue.mono (by decide)).trans ((agree_deliver_absent .qovf _).mono (by decide))

/-- Settles O50: without a report the FETCH is one write of the queue; with one, the LOST record is a second and the end
of QOVF writes the Alarm Unit alone. -/
theorem fetchRemovesTheOldest : Obligations.FetchRemovesTheOldest := by
  unfold Obligations.FetchRemovesTheOldest
  intro tag n s ready held m taken rest reply
  refine ⟨fun nothing => ?_, fun lost some_taken => ?_, fun v full => ?_⟩
  · rw [exec_fetch_of_canTake ready, afterFetch_of_nothing_to_report nothing]
    rfl
  · have after : s.afterFetch n.toNat = (s.fetched m).lostReported.deliver .qovf false :=
      afterFetch_of_lost held lost some_taken
    have queue : (s.afterFetch n.toNat).queue = (s.fetched m).lostReported.queue :=
      after ▸ (agree_deliver_absent .qovf _).get .queue (by decide)
    have kept := agree_fetch_lost m s
    rw [← after] at kept
    have mci : (s.afterFetch n.toNat).mci = s.mci := kept.get .mci (by decide)
    have count : (s.afterFetch n.toNat).queue.records.length = rest.length + 1 := by
      rw [queue]; exact List.length_append
    refine ⟨_, exec_fetch_of_canTake ready tag n, ?_, ?_, ?_, ?_, ?_, ?_, ?_, ?_⟩
    · exact (kept.mono (by decide)).trans (Agree.mono (agree_answered tag 6 _ _) (by decide))
    · exact congrArg RecordQueue.records queue
    · exact congrArg RecordQueue.sequence queue
    · exact congrArg RecordQueue.lost queue
    · exact congrArg RecordQueue.news queue
    · change ((s.afterFetch n.toNat).alarm .qovf).present = false
      rw [after, present_deliver]
    · intro a other
      change (s.afterFetch n.toNat).alarm a = s.alarm a
      rw [after, alarm_deliver_absent_other other]
      rfl
    · rw [count]
      change (s.afterFetch n.toNat).mci.replies ++ _ = _
      rw [mci]
      rfl
  · exact ⟨_, rfl, queue_takeCommand_of_dropped full tag 6 [n]⟩

end Sys2Proof.Machine
end

section
/-!
The step itself (log entry 1), and the arithmetic of the measurement unit: the arbiter, stamps and the reduction of a
burst.
-/
namespace Sys2Proof.Machine

open Sys2Proof

set_option Elab.async false

/-! ### Steps -/

/-- Settles O1. -/
theorem stepTakesFront : Obligations.StepTakesFront := by
  intro c rest s front
  delta step
  rw [front]

end Sys2Proof.Machine
end

section
/-!
The measurement unit's arithmetic: which vernier the arbiter gives (R89), stamps and intervals (R91, R92), and the
reduction of a burst (R97).
-/
namespace Sys2Proof.Machine

open Sys2Proof

set_option Elab.async false

/-! ### The arbiter (R89) -/

/-- The verniers that an arrival may take, in rising order: all of them, or all but V0. -/
def mayTake (all : Bool) : List (Fin 4) := if all then List.finRange 4 else [1, 2, 3]

/-- Whether vernier `v` may be taken and is usable, where `p` says which are. -/
def canTake (all : Bool) (p : Fin 4 → Bool) (v : Fin 4) : Bool := p v && (v != 0 || all)

theorem canTake_iff (all : Bool) (p : Fin 4 → Bool) (v : Fin 4) :
    canTake all p v = true ↔ p v = true ∧ (v ≠ 0 ∨ all = true) :=
  (Bool.and_eq_true _ _).to_iff.trans (and_congr_right' ((Bool.or_eq_true _ _).to_iff.trans (or_congr_left bne_iff_ne)))

/-- Whatever verniers are usable, the first usable one in rising order is the lowest that can be taken. -/
theorem lowest_of_found : ∀ (all : Bool) (p : Fin 4 → Bool) (v : Fin 4), (mayTake all).find? p = some v →
    canTake all p v = true ∧ ∀ w, w < v → canTake all p w = false := by
  decide +kernel

theorem nobody_of_none : ∀ (all : Bool) (p : Fin 4 → Bool), (mayTake all).find? p = none →
    ∀ v, canTake all p v = false := by
  decide +kernel

theorem arbitrate_eq (s : State) (reference : Bool) :
    s.arbitrate reference = (mayTake (reference || !s.reserved)).find? fun v => (s.vernier v).usable :=
  (apply_ite (fun l : List (Fin 4) => l.find? fun v => (s.vernier v).usable) _ _ _).symm

theorem usable_iff (x : Vernier) : x.usable = true ↔ x.state = .free ∧ x.cal.isSome = true :=
  (Bool.and_eq_true _ _).to_iff.trans (and_congr_left' beq_iff_eq)

/-- V0 is open to the reference's arrival, and to others only while no reference is selected (R89). -/
theorem open_iff (s : State) (reference : Bool) :
    (reference || !s.reserved) = true ↔ reference = true ∨ s.tmu.selected = none := by
  simp [State.reserved]

/-- Settles O24: the arbiter takes the first usable one of the permitted verniers in rising order. -/
theorem arbiterGivesTheLowestUsable : Obligations.ArbiterGivesTheLowestUsable := by
  intro reference s may
  have may_iff (v : Fin 4) : canTake (reference || !s.reserved) (fun v => (s.vernier v).usable) v = true ↔ may v :=
    (canTake_iff _ _ v).trans (and_congr (usable_iff _) (or_congr Iff.rfl (open_iff s reference)))
  refine ⟨fun v found => ?_, fun found v ok => ?_⟩
  · have first := lowest_of_found _ _ v ((arbitrate_eq s reference).symm.trans found)
    exact ⟨(may_iff v).mp first.1, fun w lower ok => absurd ((may_iff w).mpr ok) (ne_true_of_eq_false (first.2 w lower))⟩
  · exact absurd ((may_iff v).mpr ok)
      (ne_true_of_eq_false (nobody_of_none _ _ ((arbitrate_eq s reference).symm.trans found) v))

/-! ### Stamps and intervals (R91, R92) -/

/-- A quotient rounded half up lies within half a divisor of the exact one. -/
theorem roundedQuotient_bounds (x : Nat) {cal : Nat} (h : 0 < cal) :
    2 * cal * (x / (2 * cal)) ≤ x ∧ x < 2 * cal * (x / (2 * cal) + 1) :=
  ⟨Nat.mul_div_le _ _, Nat.lt_mul_div_succ _ (Nat.mul_pos Nat.two_pos h)⟩

/-- The clamped reading gives a correction of at most one clock (R84, R91). -/
theorem correction_le (f : Nat) {cal : Nat} (h : 0 < cal) : (512 * min f cal + cal) / (2 * cal) ≤ 256 := by
  have clamped : 512 * min f cal + cal ≤ 513 * cal :=
    (Nat.add_le_add_right (Nat.mul_le_mul_left 512 (Nat.min_le_right f cal)) cal).trans_eq (Nat.succ_mul 512 cal).symm
  exact (Nat.div_le_div_right clamped).trans_eq (Nat.mul_div_mul_right 513 2 h)

theorem count_add_diff (a b : BitVec 24) : (a.toNat + (b - a).toNat) % 2 ^ 24 = b.toNat :=
  (BitVec.toNat_add a (b - a)).symm.trans
    (congrArg BitVec.toNat ((BitVec.add_comm a (b - a)).trans (BitVec.sub_add_cancel b a)))

/-- Settles O28: each kind of stamp has its correction, and a difference of counts modulo 2^24 is the way from one to the
other. -/
theorem stampArithmetic : Obligations.StampArithmetic := by
  refine ⟨fun c => ⟨rfl, rfl, rfl, rfl⟩, fun c f cal hcal => ⟨rfl, correction_le f hcal, ?_⟩, fun a => ?_,
    fun a b => ⟨(b.count - a.count).toNat, (b.count - a.count).isLt, count_add_diff a.count b.count, rfl⟩⟩
  · exact roundedQuotient_bounds (512 * min f cal + cal) hcal
  · exact (congrArg (fun n : BitVec 24 => 256 * (n.toNat : Int) - a.correction + 0) (BitVec.sub_zero a.count)).trans
      (Int.add_zero _)

/-! ### The reduction of a burst (R97) -/

/-- The largest and the smallest of a list that is not empty are members of it, and the others lie between them. -/
theorem extremes_of_ne_nil {l : List Nat} (h : l ≠ []) :
    l.foldl max 0 ∈ l ∧ l.foldl min (l.headD 0) ∈ l ∧
      ∀ d ∈ l, l.foldl min (l.headD 0) ≤ d ∧ d ≤ l.foldl max 0 := by
  induction l with
  | nil => exact absurd rfl h
  | cons a t =>
    have hi : (a :: t).max? = some ((a :: t).foldl max 0) := congrArg (fun m => some (t.foldl max m)) (Nat.zero_max a).symm
    have lo : (a :: t).min? = some ((a :: t).foldl min a) := congrArg (fun m => some (t.foldl min m)) (Nat.min_self a).symm
    have largest := List.max?_eq_some_iff.mp hi
    have smallest := List.min?_eq_some_iff.mp lo
    exact ⟨largest.1, smallest.1, fun d hd => ⟨smallest.2 d hd, largest.2 d hd⟩⟩

theorem reduce_of_failed {b : Burst} (h : 2 * b.samples.length < b.slots.length) :
    b.reduce =
      { completed := false, burst := b.slots.length, present := b.samples.length, delay := none, spread := none,
        coarse := false, assumed := false, implausible := false, unstable := false } := if_pos h

/-- The spread of the present samples. -/
def Burst.spread (b : Burst) : Nat :=
  let delays := b.samples.map Sample.delay
  delays.foldl max 0 - delays.foldl min (delays.headD 0)

theorem reduce_of_completed {b : Burst} (h : b.slots.length ≤ 2 * b.samples.length) :
    b.reduce =
      { completed := true, burst := b.slots.length, present := b.samples.length,
        delay := some ((2 * (b.samples.map Sample.delay).sum + b.samples.length) / (2 * b.samples.length)),
        spread := some b.spread, coarse := b.samples.any Sample.coarse, assumed := b.samples.any Sample.assumed,
        implausible := b.samples.any Sample.implausible,
        unstable := decide (0 < b.spreadLimit ∧ b.spreadLimit < b.spread) } :=
  if_neg (Nat.not_lt.mpr h)

theorem half_up_le_iff (t n : Nat) : (t + 1) / 2 ≤ n ↔ t ≤ 2 * n := by
  rw [Nat.mul_comm, ← Nat.lt_succ_iff, Nat.div_lt_iff_lt_mul Nat.two_pos, Nat.succ_mul]
  exact Nat.succ_lt_succ_iff.trans Nat.lt_succ_iff

/-- A burst record's slots and present samples are counted in its result, whatever the outcome. -/
theorem counts_reduce (b : Burst) : b.reduce.burst = b.slots.length ∧ b.reduce.present = b.samples.length :=
  (Nat.lt_or_ge (2 * b.samples.length) b.slots.length).elim
    (fun few => ⟨congrArg AuditResult.burst (reduce_of_failed few), congrArg AuditResult.present (reduce_of_failed few)⟩)
    (fun enough => ⟨congrArg AuditResult.burst (reduce_of_completed enough),
      congrArg AuditResult.present (reduce_of_completed enough)⟩)

theorem few_of_below {n total : Nat} (below : n < (total + 1) / 2) : 2 * n < total :=
  Nat.lt_of_not_le fun enough => absurd ((half_up_le_iff _ _).mpr enough) (Nat.not_le.mpr below)

/-- Settles O30, by the two outcomes of a reduction. -/
theorem burstReduction : Obligations.BurstReduction := by
  intro b xs n total r
  refine ⟨(counts_reduce b).1, (counts_reduce b).2, fun below => ?_, fun half => ?_⟩
  · have failed : r = _ := reduce_of_failed (few_of_below below)
    exact ⟨congrArg AuditResult.completed failed, congrArg AuditResult.delay failed, congrArg AuditResult.spread failed⟩
  · have completed : r = _ := reduce_of_completed ((half_up_le_iff _ _).mp half)
    refine ⟨congrArg AuditResult.completed completed, congrArg AuditResult.coarse completed,
      congrArg AuditResult.assumed completed, congrArg AuditResult.implausible completed,
      fun some_present => ⟨congrArg AuditResult.delay completed, ?_⟩⟩
    have delays_ne : xs.map Sample.delay ≠ [] := fun none_present =>
      List.ne_nil_of_length_pos some_present (List.map_eq_nil_iff.mp none_present)
    have extremes := extremes_of_ne_nil delays_ne
    exact ⟨_, extremes.1, _, extremes.2.1, extremes.2.2, congrArg AuditResult.spread completed,
      congrArg AuditResult.unstable completed⟩

end Sys2Proof.Machine
end

section
/-!
Rows that act on one port or group: the acceptance of equal values and the word search.
-/
namespace Sys2Proof.Machine

open Sys2Proof

set_option Elab.async false

/-! ### Rows that act, and rows that find nothing to do (log entry 3) -/

theorem ifOutcome_acts {p : State → State → Bool} {f : State → State} {s : State} (h : p s (f s) = true) :
    ifOutcome p f s = f s := if_pos h

theorem ifOutcome_idle {p : State → State → Bool} {f : State → State} {s : State} (h : p s (f s) = false) :
    ifOutcome p f s = s := if_neg (ne_true_of_eq_false h)

theorem atTick_of_due {f : State → State} {s : State} (h : s.openFrame.tickDue = true) : atTick f s = f s.openFrame :=
  if_pos h

/-- Blocks that agree, one by one. -/
theorem Agree.nil (s t : State) : Agree [] s t := fun _ h => (List.not_mem_nil h).elim

theorem Agree.cons {b : Block} {bs : List Block} {s t : State} (h : b.same s t) (k : Agree bs s t) :
    Agree (b :: bs) s t := fun c hc => by
  rcases List.mem_cons.mp hc with rfl | hc
  · exact h
  · exact k c hc

theorem modGroup_congr {g : Fin 8} {f h : Group → Group} {s : State} (same : f (s.group g) = h (s.group g)) :
    s.modGroup g f = s.modGroup g h := congrArg (fun x => { s with groups := s.groups.set g.val x g.isLt }) same

theorem modQuality_congr {p : Fin 8} {f h : QualityFilter → QualityFilter} {s : State}
    (same : f (s.tmu.quality[p.val]'p.isLt) = h (s.tmu.quality[p.val]'p.isLt)) : s.modQuality p f = s.modQuality p h :=
  congrArg (fun x => { s with tmu := { s.tmu with quality := s.tmu.quality.set p.val x p.isLt } }) same

theorem modPort_congr {p : Fin 8} {f h : Port → Port} {s : State} (same : f (s.port p) = h (s.port p)) :
    s.modPort p f = s.modPort p h := congrArg (fun x => { s with ports := s.ports.set p.val x p.isLt }) same

/-! ### Equal switch signals and quality codes (4.1, 7.3) -/

theorem signalAccepted_of {g : Fin 8} {v : SwitchSignal} {s : State} (h : (s.group g).candidate = some v) :
    s.signalAccepted g = if (s.group g).run = 2 then s.modGroup g (Group.takeSignal v) else s := by
  delta State.signalAccepted
  dsimp only
  rw [h]

theorem qualityAccepted_of {p : Fin 8} {q : BitVec 4} {s : State} (h : (s.tmu.quality[p]'p.isLt).candidate = some q) :
    s.qualityAccepted p = if (s.tmu.quality[p]'p.isLt).run = 7 then s.modQuality p (QualityFilter.take q) else s := by
  delta State.qualityAccepted
  dsimp only
  rw [h]

theorem takeSignal_third {v : SwitchSignal} {x : Group} (h : x.candidate = some v) (run : x.run = 2) :
    x.takeSignal v = { x with run := 3, accepted := some v } :=
  have third : (if x.candidate = some v then bump x.run 3 else 1) = 3 := (if_pos h).trans (congrArg (bump · 3) run)
  (congrArg (fun n : Nat =>
    ({ x with candidate := some v, run := n, accepted := if n = 3 then some v else x.accepted } : Group)) third).trans
    (congrArg (fun c => ({ x with candidate := c, run := 3, accepted := some v } : Group)) h.symm)

theorem take_eighth {q : BitVec 4} {x : QualityFilter} (h : x.candidate = some q) (run : x.run = 7) :
    x.take q = { x with run := 8, accepted := some q } :=
  have eighth : (if x.candidate = some q then bump x.run 8 else 1) = 8 := (if_pos h).trans (congrArg (bump · 8) run)
  (congrArg (fun n : Nat =>
    ({ candidate := some q, run := n, accepted := if n = 8 then some q else x.accepted } : QualityFilter)) eighth).trans
    (congrArg (fun c => ({ candidate := c, run := 8, accepted := some q } : QualityFilter)) h.symm)

/-- Settles O22. -/
theorem equalValuesAreAccepted : Obligations.EqualValuesAreAccepted :=
  ⟨fun _g _v _s cand => ⟨fun run => congrArg Host.Outcome.next
      ((signalAccepted_of cand).trans ((if_pos run).trans (modGroup_congr (takeSignal_third cand run)))),
    fun short => congrArg Host.Outcome.next ((signalAccepted_of cand).trans (if_neg short.ne))⟩,
  fun _p _q _s cand => ⟨fun run => congrArg Host.Outcome.next
      ((qualityAccepted_of cand).trans ((if_pos run).trans (modQuality_congr (take_eighth cand run)))),
    fun short => congrArg Host.Outcome.next ((qualityAccepted_of cand).trans (if_neg short.ne))⟩⟩

/-! ### The word search (1.2) -/

theorem find_of {p : Fin 8} {w : BitVec 16} {n : Nat} {s : State} (hunt : (s.port p).align = .hunt)
    (light : (s.port p).los = false) (reached : (s.port p).searchFrom ≤ n)
    (sees : (s.port p).lineWord w n = alignmentWord) :
    s.find p w n = s.modPort p fun x => { x with align := .confirm, candidate := n, confirmed := 0 } :=
  if_pos ⟨hunt, light, reached, sees⟩

theorem confirmWord_of {p : Fin 8} {w : BitVec 16} {s : State} (h : (s.port p).align = .confirm) :
    s.confirmWord p w = s.modPort p fun x =>
      if x.lineWord w x.candidate = alignmentWord then
        if x.confirmed = 0 then { x with confirmed := 1 } else x.enterSync
      else { x with align := .hunt, searchFrom := x.candidate + 1, confirmed := 0 } := if_pos h

theorem high_bytes (x : BitVec 16) (c : Byte) : ((x ++ c : BitVec 24) >>> 8).setWidth 16 = x :=
  BitVec.extractLsb'_append_eq_left

theorem getD_frameBytes (f : LineFrame) (tail : List Byte) (i : Nat) (h : i < 16) :
    (frameBytes f ++ tail).getD i 0 = f.overhead[i] :=
  have short : i < f.overhead.toList.length := f.overhead.length_toList.symm ▸ h
  (congrArg (fun l : List Byte => l.getD i 0) (List.append_assoc _ _ _)).trans <|
    (List.getD_append _ _ _ _ short).trans <| (List.getD_eq_getElem _ _ short).trans (Vector.getElem_toList short)

/-- The word at the frame's start is its alignment word. -/
theorem sentWord_zero (f : LineFrame) : sentWord f 0 = frameWord f :=
  (high_bytes _ _).trans (congrArg₂ (fun a b : Byte => a ++ b) (getD_frameBytes f _ 0 (Nat.zero_lt_succ 15))
    (getD_frameBytes f _ 1 (Nat.succ_lt_succ (Nat.zero_lt_succ 14))))

theorem lineWord_terminal {x : Port} {f : LineFrame} (terminal : x.loopback = .terminal) (frame : x.txFrame = some f)
    (w : BitVec 16) (n : Nat) : x.lineWord w n = sentWord f (n % 11648) :=
  (if_pos terminal).trans (by rw [frame])

/-- A window that is no find leaves the state. -/
theorem find_of_not {p : Fin 8} {w : BitVec 16} {n : Nat} {s : State}
    (h : (s.port p).align ≠ .hunt ∨ (s.port p).los = true ∨ n < (s.port p).searchFrom ∨
      (s.port p).lineWord w n ≠ alignmentWord) : s.find p w n = s := by
  refine if_neg fun found => ?_
  rcases h with h | h | h | h
  · exact h found.1
  · exact Bool.false_ne_true (found.2.1.symm.trans h)
  · exact absurd found.2.2.1 (Nat.not_le.mpr h)
  · exact h found.2.2.2

theorem agree_modPort (p : Fin 8) (f : Port → Port) (s : State) :
    Agree [.pending, .inputs, .moment, .ssw, .groups, .imu, .csv, .tmu, .alu, .queue, .mci] s (s.modPort p f) :=
  .cons rfl <| .cons rfl <| .cons rfl <| .cons rfl <| .cons rfl <| .cons rfl <| .cons rfl <| .cons rfl <|
    .cons rfl <| .cons rfl <| .cons rfl <| .nil _ _

/-- Settles O7, by the word that the receiver sees and the state of its search. -/
theorem searchAndConfirm : Obligations.SearchAndConfirm := by
  intro p s sees
  exact ⟨fun _w _n normal => if_neg normal, fun w n _f terminal frame => lineWord_terminal terminal frame w n,
    fun f _terminal _frame => sentWord_zero f,
    fun _w _n hunt light reached found => congrArg Host.Outcome.next (find_of hunt light reached found),
    fun _w state first found => congrArg Host.Outcome.next
      ((confirmWord_of state).trans (modPort_congr ((if_pos found).trans (if_pos first)))),
    fun _w state second found => ⟨s.modPort p Port.enterSync, congrArg Host.Outcome.next ((confirmWord_of state).trans
      (modPort_congr ((if_pos found).trans (if_neg (second.trans_ne Nat.one_ne_zero))))),
      agree_modPort p Port.enterSync s, fun q hq => State.port_modPort_other s hq.symm _, State.port_modPort_self s p _⟩,
    fun _w state differs => congrArg Host.Outcome.next ((confirmWord_of state).trans (modPort_congr (if_neg differs))),
    fun _w _n h => congrArg Host.Outcome.next (find_of_not h)⟩

end Sys2Proof.Machine
end

section
/-! EXC and DEG are judged at a tick (1.6). -/
namespace Sys2Proof.Machine

open Sys2Proof

set_option Elab.async false

/-- A judgement of a port's second: the port is changed by `f`, and its presence `b` delivered to the cell of kind `k`. -/
def State.judgeSecond (p : Fin 8) (k : PortKind) (f : Port → Port) (b : Port → Bool) (s : State) : State :=
  let t := s.modPort p f
  t.deliver (.port p k) (b (t.port p))

theorem port_of_ports {s t : State} (h : t.ports = s.ports) (p : Fin 8) : t.port p = s.port p :=
  congrArg (fun v => State.port { s with ports := v } p) h

section
variable (p : Fin 8) (k : PortKind) (f : Port → Port) (b : Port → Bool) (u : State)

theorem port_judgeSecond (q : Fin 8) : (u.judgeSecond p k f b).port q = (u.modPort p f).port q :=
  port_of_ports ((agree_deliver _ _ (u.modPort p f)).get .ports (by decide)) q

theorem agree_judgeSecond (m : Instant) :
    Agree [.pending, .inputs, .ssw, .records, .mci] u (State.judgeSecond p k f b { u with moment := m }) :=
  have judged : Agree [.pending, .inputs, .ssw, .records, .mci] u (State.modPort p f { u with moment := m }) :=
    .cons rfl <| .cons rfl <| .cons rfl <| .cons rfl <| .cons rfl <| .nil _ _
  judged.trans ((agree_deliver _ _ _).mono (by decide))

end

/-- The state after judgement `j` of a port's second has been made at the coming local frame start. -/
def State.judgedAt (p : Fin 8) (k : PortKind) (j : Judgement) (f : Port → Port) (b : Port → Bool) (s : State) : State :=
  State.judgeSecond p k f b { s.openFrame with moment := s.openFrame.moment.made j }

theorem judgeExc_ends {x : Port} (available : x.available = true) (raised : x.exc = true)
    (few : x.perSecond < x.settings.xt) (second : x.belowXt = 1) : x.judgeExc = { x with exc := false, belowXt := 2 } :=
  (if_pos available).trans ((if_neg (Nat.not_le.mpr few)).trans (congrArg₂ (fun (e : Bool) (n : Nat) =>
    ({ x with belowXt := bump n 2, exc := e && bump n 2 != 2 } : Port)) raised second))

theorem judgeDeg_begins {x : Port} (available : x.available = true) (clear : x.deg = false)
    (many : x.settings.dt ≤ x.perSecond) (run : x.settings.dm ≤ bump x.degradedRun 10) :
    x.judgeDeg = { x with deg := true, degradedRun := bump x.degradedRun 10, cleanRun := 0 } :=
  (if_pos available).trans ((if_pos many).trans (congrArg₂ (fun d e : Bool =>
    ({ x with degradedRun := bump x.degradedRun 10, cleanRun := 0, deg := d || e } : Port)) clear (decide_eq_true run)))

theorem judgeDeg_ends {x : Port} (available : x.available = true) (raised : x.deg = true)
    (few : x.perSecond < x.settings.dt) (run : x.settings.dm ≤ bump x.cleanRun 10) :
    x.judgeDeg = { x with deg := false, degradedRun := 0, cleanRun := bump x.cleanRun 10 } :=
  (if_pos available).trans ((if_neg (Nat.not_le.mpr few)).trans (congrArg₂ (fun d e : Bool =>
    ({ x with degradedRun := 0, cleanRun := bump x.cleanRun 10, deg := d && !e } : Port)) raised (decide_eq_true run)))

section
variable {P : Port → Port → Bool} {p : Fin 8} {k : PortKind} {j : Judgement} {f : Port → Port} {b : Port → Bool} {s : State}
  {x : Port}

theorem port_judgedAt (judged : f (s.port p) = x) : (s.judgedAt p k j f b).port p = x :=
  (port_judgeSecond p k f b _ p).trans <| (State.port_modPort_self _ p f).trans <|
    (congrArg f (openFrame_port s p)).trans judged

/-- What a judgement at the coming tick leaves of the state, and what it says. -/
theorem judgedAt_facts (judged : f (s.port p) = x) :
    (Agree [.pending, .inputs, .ssw, .records, .mci] s (s.judgedAt p k j f b) ∧
      ∀ q, q ≠ p → (s.judgedAt p k j f b).port q = s.port q) ∧
    (s.judgedAt p k j f b).port p = x ∧ ((s.judgedAt p k j f b).alarm (.port p k)).present = b x := by
  have said : ((s.judgedAt p k j f b).alarm (.port p k)).present = _ := present_deliver _ _ _
  exact ⟨⟨((agree_openFrame s).mono (by decide)).trans (agree_judgeSecond p k f b _ _),
      fun q hq => (port_judgeSecond p k f b _ q).trans
        ((State.port_modPort_other _ hq.symm f).trans (openFrame_port s q))⟩,
    port_judgedAt judged,
    said.trans (congrArg b ((port_judgeSecond p k f b _ p).symm.trans (port_judgedAt judged)))⟩

theorem judged_at_tick (tick : s.openFrame.tickDue = true) (new : j ∉ s.openFrame.moment.done) :
    atTick (fun s => s.once j (State.judgeSecond p k f b)) s = s.judgedAt p k j f b :=
  (atTick_of_due tick).trans (once_of_new (State.judgeSecond p k f b) new)

/-- The row that looks for `P`, where the judgement gives it. -/
theorem second_acts (tick : s.openFrame.tickDue = true) (new : j ∉ s.openFrame.moment.done)
    (judged : f (s.port p) = x) (acts : P (s.port p) x = true) :
    ∃ t, (.next (ifOutcome (fun s t => P (s.port p) (t.port p)) (atTick fun s => s.once j (State.judgeSecond p k f b)) s) :
        Host.Outcome State Fault Refusal) = .next t ∧
      (Agree [.pending, .inputs, .ssw, .records, .mci] s t ∧ ∀ q, q ≠ p → t.port q = s.port q) ∧ t.port p = x ∧
      (t.alarm (.port p k)).present = b x :=
  ⟨s.judgedAt p k j f b, congrArg Host.Outcome.next ((ifOutcome_acts ((congrArg (fun t : State => P (s.port p) (t.port p))
    (judged_at_tick tick new)).trans ((congrArg (P (s.port p)) (port_judgedAt judged)).trans acts))).trans
      (judged_at_tick tick new)), judgedAt_facts judged⟩

theorem second_idle (tick : s.openFrame.tickDue = true) (new : j ∉ s.openFrame.moment.done)
    (judged : f (s.port p) = s.port p) (idle : P (s.port p) (s.port p) = false) :
    (.next (ifOutcome (fun s t => P (s.port p) (t.port p)) (atTick fun s => s.once j (State.judgeSecond p k f b)) s) :
        Host.Outcome State Fault Refusal) = .next s :=
  congrArg Host.Outcome.next (ifOutcome_idle ((congrArg (fun t : State => P (s.port p) (t.port p))
    (judged_at_tick tick new)).trans ((congrArg (P (s.port p)) (port_judgedAt judged)).trans idle)))

end

/-- Settles O13, by the judgement of the second that closes. -/
theorem secondsAreJudged : Obligations.SecondsAreJudged := by
  intro p s tick excNew degNew x judged
  refine ⟨fun available raised few second => second_acts (P := fun x y => x.exc && !y.exc) (b := Port.exc) tick excNew
      (judgeExc_ends available raised few second) (congrArg (· && true) raised),
    fun available clear many run => second_acts (P := fun x y => !x.deg && y.deg) (b := Port.deg) tick degNew
      (judgeDeg_begins available clear many run) (congrArg (!· && true) clear),
    fun available raised few run => second_acts (P := fun x y => x.deg && !y.deg) (b := Port.deg) tick degNew
      (judgeDeg_ends available raised few run) (congrArg (· && true) raised),
    fun unavailable => ?_⟩
  have closed : x.available ≠ true := ne_true_of_eq_false unavailable
  exact ⟨second_idle (P := fun x y => x.exc && !y.exc) (b := Port.exc) tick excNew (if_neg closed) (Bool.and_not_self _),
    second_idle (P := fun x y => !x.deg && y.deg) (b := Port.deg) tick degNew (if_neg closed) (Bool.not_and_self _),
    second_idle (P := fun x y => x.deg && !y.deg) (b := Port.deg) tick degNew (if_neg closed) (Bool.and_not_self _)⟩

end Sys2Proof.Machine
end

section
/-! A due marker departs (6.4). -/
namespace Sys2Proof.Machine

open Sys2Proof

set_option Elab.async false

/-- A state of a known burst record is that state with the record written. -/
theorem eq_withBurst {s : State} {o : Option Burst} (h : s.imu.burst = o) : s = { s with imu := { s.imu with burst := o } } :=
  congrArg (fun o => ({ s with imu := { s.imu with burst := o } } : State)) h

/-- A fact about the states with the record written holds of the state of that record. -/
theorem of_withBurst {P : State → Prop} {s : State} {o : Option Burst} (h : s.imu.burst = o)
    (k : P { s with imu := { s.imu with burst := o } }) : P s := (eq_withBurst h).symm ▸ k

theorem not_outstanding {b : Burst} (free : b.waiting = false) {x : SampleSlot} (mem : x ∈ b.slots) : ¬x.isOutstanding = true :=
  List.any_eq_false.mp free x mem

theorem depart_of {b : Burst} {i : Nat} (free : b.waiting = false) (first : b.slots.findIdx? SampleSlot.isPending = some i)
    (stamp : Stamp) (frame : Nat) :
    b.depart stamp frame = { b with slots := b.slots.set i (.outstanding stamp frame false) } := by
  have same : b.slots.map (fun x => if x.isOutstanding then .missing else x) = b.slots :=
    (List.map_congr_left fun x mem => if_neg (not_outstanding free mem)).trans (List.map_id' _)
  delta Burst.depart
  dsimp only
  rw [same, first]

theorem due_reach {m : Markers} {n : BitVec 4} (h : 0 < m.due ∨ ∃ d, m.drawn = some d ∧ d ≤ n) : 0 < (m.reach n).due := by
  induction m with
  | mk k drawn x f =>
    induction drawn with
    | none => exact h.resolve_right fun h => h.elim fun d h => Option.some_ne_none d h.1.symm
    | some e =>
      by_cases near : e ≤ n
      · have reached : Markers.reach n ⟨k, some e, x, f⟩ = _ := if_pos near
        exact Nat.lt_of_lt_of_eq (Nat.succ_pos x) (congrArg Markers.due reached).symm
      · have old : 0 < x := h.resolve_right fun h => h.elim fun d h => near ((Option.some.inj h.1).symm ▸ h.2)
        have far : Markers.reach n ⟨k, some e, x, f⟩ = _ := if_neg near
        exact Nat.lt_of_lt_of_eq old (congrArg Markers.due far).symm

/-- What is said of outstanding slots alone. -/
theorem SampleSlot.outstanding_of {P : SampleSlot → Bool} (pending : P .pending = false)
    (present : ∀ y, P (.present y) = false) (missing : P .missing = false) {x : SampleSlot} (h : P x = true) :
    x.isOutstanding = true := by
  induction x with
  | outstanding d m found => rfl
  | pending => exact pending.symm.trans h
  | present y => exact (present y).symm.trans h
  | missing => exact missing.symm.trans h

/-- No slot of a burst record is late while none is outstanding. -/
theorem echoTimeoutStep_of_free {s : State} {b : Burst} (burst : s.imu.burst = some b) (free : b.waiting = false) :
    s.echoTimeoutStep = s :=
  of_withBurst (P := fun s => s.echoTimeoutStep = s) burst <| if_neg fun late =>
    (List.any_eq_true.mp late).elim fun x h => not_outstanding free h.1 (SampleSlot.outstanding_of rfl (fun _y => rfl) rfl h.2)

theorem drawStep_of_drawn {s : State} {b : Burst} (burst : s.imu.burst = some b)
    (drawn : s.index ≠ 0 ∨ b.slots.length ≤ s.csv.markers.draws ∨ s.csv.markers.drawnIn = s.tmu.frameNo) :
    s.drawStep = s :=
  of_withBurst (P := fun s => s.drawStep = s) burst <| if_neg fun h =>
    drawn.elim (fun k => k h.1) fun k => k.elim (Nat.not_le.mpr h.2.1) h.2.2

/-- The state after the marker of port `p` has departed, its burst record being `b`. -/
def State.departed (s : State) (p : Fin 8) (b : Burst) : State :=
  let m := s.csv.markers.reach s.index
  State.modCable p (fun c => { c with markerOut := true })
    { s with imu := { s.imu with burst := some b }, csv := { s.csv with markers := { m with due := m.due - 1 } } }

theorem marker_departed (s : State) (p : Fin 8) (b : Burst) : ((s.departed p b).cable p).markerOut = true :=
  congrArg Cable.markerOut (State.cable_modCable_self _ p fun c => { c with markerOut := true })

theorem departStep_of_due {s : State} {b : Burst} (burst : s.imu.burst = some b) (free : b.waiting = false)
    (due : 0 < (s.csv.markers.reach s.index).due) :
    s.departStep = s.departed b.port (b.depart (.exact s.frameMark) s.tmu.frameNo) :=
  of_withBurst (P := fun s => s.departStep = s.departed b.port (b.depart (.exact s.frameMark) s.tmu.frameNo)) burst <|
    if_pos ⟨due, free⟩

/-- The audits' step at a local frame start at which the marker of the active audit is due. -/
theorem markerStep_of_due {s : State} {b : Burst} {i : Nat} (burst : s.openFrame.imu.burst = some b)
    (free : b.waiting = false) (first : b.slots.findIdx? SampleSlot.isPending = some i)
    (drawn : s.openFrame.index ≠ 0 ∨ b.slots.length ≤ s.openFrame.csv.markers.draws ∨
      s.openFrame.csv.markers.drawnIn = s.openFrame.tmu.frameNo)
    (due : 0 < s.openFrame.csv.markers.due ∨ ∃ d, s.openFrame.csv.markers.drawn = some d ∧ d ≤ s.openFrame.index) :
    s.markerStep = s.openFrame.departed b.port
      { b with slots := b.slots.set i (.outstanding (.exact s.openFrame.frameMark) s.openFrame.tmu.frameNo false) } := by
  have started : s.openFrame.auditStartStep = s.openFrame := if_neg fun h =>
    Bool.false_ne_true ((congrArg Option.isNone burst).symm.trans h.2.1)
  have ready : s.openFrame.auditStartStep.echoTimeoutStep.drawStep = s.openFrame :=
    (congrArg (fun u : State => u.echoTimeoutStep.drawStep) started).trans
      ((congrArg State.drawStep (echoTimeoutStep_of_free burst free)).trans (drawStep_of_drawn burst drawn))
  exact (congrArg State.departStep ready).trans
    ((departStep_of_due burst free (due_reach due)).trans
      (congrArg (State.departed s.openFrame b.port) (depart_of free first _ _)))

theorem newMarker_of {s t : State} {p : Fin 8} (out : (t.cable p).markerOut = true) (unsent : (s.cable p).markerOut = false) :
    newMarker s t = true :=
  List.any_eq_true.mpr ⟨p, List.mem_finRange p, Bool.and_eq_true_iff.mpr ⟨out, congrArg not unsent⟩⟩

theorem agree_departed (s : State) (p : Fin 8) (b : Burst) :
    Agree [.pending, .inputs, .moment, .ports, .ssw, .groups, .tmu, .alu, .queue, .mci] s (s.departed p b) :=
  .cons rfl <| .cons rfl <| .cons rfl <| .cons rfl <| .cons rfl <| .cons rfl <| .cons rfl <| .cons rfl <| .cons rfl <|
    .cons rfl <| .nil _ _

/-- Settles O34. -/
theorem markerDeparts : Obligations.MarkerDeparts := by
  intro b i s u m burst free first drawn due unsent
  have step : s.markerStep = _ := markerStep_of_due burst free first drawn due
  exact ⟨_, congrArg Host.Outcome.next
      ((ifOutcome_acts (newMarker_of (step ▸ marker_departed u b.port _) unsent)).trans step),
    agree_departed u b.port _, marker_departed u b.port _,
    fun q hq => State.cable_modCable_other _ hq.symm fun c => { c with markerOut := true }, rfl, rfl, rfl⟩

end Sys2Proof.Machine
end

section
/-! The soaks of the alarm cells end (8.3, 8.5, 8.8). -/
namespace Sys2Proof.Machine

open Sys2Proof

set_option Elab.async false

/-- The state with the cells, the relays and a record of `r` queued, where the queue has room (R175). -/
def State.reported (u : State) (z : Alu) (r : Report) : State :=
  { u with
    alu := z
    queue := { u.queue with
      records := u.queue.records ++
        [{ sequence := u.queue.sequence, seconds := u.tmu.seconds, frame := u.tmu.frameCount, report := r }]
      sequence := (u.queue.sequence + 1) % 65536
      news := { u.queue.news with newRecord := true } } }

theorem ite_true_or : ∀ c b : Bool, (if c then true else b) = (b || c) := by decide

theorem serious_iff (v : Severity) : v.serious = (v == .crit || v == .maj) := by
  induction v <;> rfl

theorem serious_or (v : Severity) (b : Bool) : (if v.serious then true else b) = (b || v == .crit || v == .maj) :=
  (ite_true_or _ b).trans ((congrArg (b || ·) (serious_iff v)).trans (Bool.or_assoc b _ _).symm)

theorem push_of_room {u : State} (room : u.queue.records.length < 64) (z : Alu) (r : Report) :
    State.push r { u with alu := z } = u.reported z r :=
  have queued : State.queueRecord r { u with alu := z } = u.reported z r := if_pos room
  (if_neg fun h => Nat.zero_ne_one (h.1.symm.trans ((congrArg (fun t : State => t.queue.lost) queued).symm.trans h.2))).trans
    queued

/-- The cells of `u` with cell `a` written to `y`, the relays judged, and AUD at `aud` (R168, R169). -/
def State.rung (u : State) (a : AlarmId) (y : Alarm) (aud : Bool) : Alu :=
  let z := (u.putAlarm a y).alu
  { z with relays := { z.relays with aud := aud } }

/-- A cell of severity `v` that enters ACTIVE sounds AUD where the severity is CRIT or MAJ. -/
theorem soundBell_putAlarm (u : State) (a : AlarmId) (y : Alarm) (v : Severity) :
    (u.putAlarm a y).soundBell v = { u with alu := u.rung a y (u.alu.relays.aud || v == .crit || v == .maj) } := by
  suffices same : ∀ b : Bool, (if v.serious then true else u.alu.relays.aud) = b →
      (u.putAlarm a y).soundBell v = { u with alu := u.rung a y b } from
    same _ (serious_or v u.alu.relays.aud)
  rintro b rfl
  exact (apply_ite (fun b => ({ u with alu := u.rung a y b } : State)) _ true u.alu.relays.aud).symm

/-- What an entry into ACTIVE, LATCHED or IDLE leaves, and what it reports. -/
theorem reported_facts (u : State) (a : AlarmId) (y : Alarm) (aud : Bool) (r : Report) :
    (Agree [.pending, .inputs, .moment, .ports, .ssw, .groups, .imu, .csv, .tmu, .mci] u (u.reported (u.rung a y aud) r) ∧
      (∀ b, b ≠ a → (u.reported (u.rung a y aud) r).alarm b = u.alarm b) ∧ (u.reported (u.rung a y aud) r).RelayLaw ∧
      (u.reported (u.rung a y aud) r).alu.profiles = u.alu.profiles) ∧
    (u.reported (u.rung a y aud) r).alarm a = y := by
  have judged (v : Severity) : (u.reported (u.rung a y aud) r).relayOf v =
      State.relayOf { u with alu := { u.alu with alarms := u.alu.alarms.set a.index.val y a.index.isLt } } v :=
    rfl
  refine ⟨⟨?_, fun b h => State.alarm_putAlarm_other u h.symm y, ?_, rfl⟩, State.alarm_putAlarm_self u a y⟩
  · exact .cons rfl <| .cons rfl <| .cons rfl <| .cons rfl <| .cons rfl <| .cons rfl <| .cons rfl <| .cons rfl <| .cons rfl <|
      .cons rfl <| .nil _ _
  · exact ⟨(judged .crit).symm, (judged .maj).symm, (judged .min).symm⟩

/-- The end of a raise soak (R156). -/
def State.raiseEnd (a : AlarmId) (s : State) : State :=
  ((s.putAlarm a { s.alarm a with state := .active, soak := none }).soundBell (s.entryOf a).severity).push
    (.alarm a .raised (s.entryOf a).severity (s.alarm a).value)

/-- The end of a clear soak (R157). -/
def State.clearEnd (a : AlarmId) (s : State) : State :=
  if (s.entryOf a).mode == .latch && (s.alarm a).flag then
    (s.putAlarm a { s.alarm a with state := .latched, soak := none, held := some (s.entryOf a).severity }).push
      (.alarm a .held (s.entryOf a).severity (s.alarm a).value)
  else (s.putAlarm a { s.alarm a with state := .idle, soak := none, held := none }).push
    (.alarm a .cleared (s.entryOf a).severity (s.alarm a).value)

section
variable {a : AlarmId} {s : State} {n : Nat}

theorem raiseSoakStep_of (raising : (s.alarm a).state = .raising) (soak : (s.alarm a).soak = some n) :
    s.raiseSoakStep a = if 20000 ≤ n + 1 then s.raiseEnd a else s.putSoak a (n + 1) := by
  have counted : s.raiseSoakStep a =
      if 20000 ≤ (s.alarm a).soak.getD 0 + 1 then s.raiseEnd a else s.putSoak a ((s.alarm a).soak.getD 0 + 1) :=
    if_pos (beq_iff_eq.mpr raising)
  rw [counted, soak]
  rfl

theorem clearSoakStep_of (clearing : (s.alarm a).state = .clearing) (soak : (s.alarm a).soak = some n) :
    s.clearSoakStep a = if 10 ≤ n + 1 then s.clearEnd a else s.putSoak a (n + 1) := by
  have counted : s.clearSoakStep a =
      if 10 ≤ (s.alarm a).soak.getD 0 + 1 then s.clearEnd a else s.putSoak a ((s.alarm a).soak.getD 0 + 1) :=
    if_pos (beq_iff_eq.mpr clearing)
  rw [counted, soak]
  rfl

theorem raiseSoakStep_ends (room : s.queue.records.length < 64) (raising : (s.alarm a).state = .raising)
    (soak : (s.alarm a).soak = some n) (long : 19999 ≤ n) :
    s.raiseSoakStep a = s.reported (s.rung a { s.alarm a with state := .active, soak := none }
      (s.alu.relays.aud || (s.entryOf a).severity == .crit || (s.entryOf a).severity == .maj))
      (.alarm a .raised (s.entryOf a).severity (s.alarm a).value) :=
  (raiseSoakStep_of raising soak).trans <| (if_pos (Nat.succ_le_succ long)).trans <|
    (congrArg (State.push _) (soundBell_putAlarm s a _ _)).trans (push_of_room room (s.rung a _ _) _)

theorem clearSoakStep_latches (room : s.queue.records.length < 64) (clearing : (s.alarm a).state = .clearing)
    (soak : (s.alarm a).soak = some n) (long : 9 ≤ n) (latch : (s.entryOf a).mode = .latch) (flag : (s.alarm a).flag = true) :
    s.clearSoakStep a = s.reported
      (s.rung a { s.alarm a with state := .latched, soak := none, held := some (s.entryOf a).severity } s.alu.relays.aud)
      (.alarm a .held (s.entryOf a).severity (s.alarm a).value) :=
  (clearSoakStep_of clearing soak).trans <| (if_pos (Nat.succ_le_succ long)).trans <|
    (if_pos (Bool.and_eq_true_iff.mpr ⟨beq_iff_eq.mpr latch, flag⟩)).trans (push_of_room room (s.rung a _ _) _)

theorem clearSoakStep_clears (room : s.queue.records.length < 64) (clearing : (s.alarm a).state = .clearing)
    (soak : (s.alarm a).soak = some n) (long : 9 ≤ n) (plain : (s.entryOf a).mode ≠ .latch ∨ (s.alarm a).flag = false) :
    s.clearSoakStep a = s.reported
      (s.rung a { s.alarm a with state := .idle, soak := none, held := none } s.alu.relays.aud)
      (.alarm a .cleared (s.entryOf a).severity (s.alarm a).value) :=
  have free : ¬((s.entryOf a).mode == .latch && (s.alarm a).flag) = true := fun held =>
    plain.elim (fun h => h (eq_of_beq (Bool.and_elim_left held)))
      fun h => Bool.false_ne_true (h.symm.trans (Bool.and_elim_right held))
  (clearSoakStep_of clearing soak).trans <| (if_pos (Nat.succ_le_succ long)).trans <| (if_neg free).trans
    (push_of_room room (s.rung a _ _) _)

/-- A shorter soak is counted on, and leaves the state of the cell. -/
theorem state_putSoak : ((s.putSoak a n).alarm a).state = (s.alarm a).state :=
  (congrArg Alarm.state (State.alarm_putAlarm_self s a { s.alarm a with soak := some n }) :)

theorem raiseSoakStep_goes_on (raising : (s.alarm a).state = .raising) (soak : (s.alarm a).soak = some n)
    (short : n < 19999) : ((s.raiseSoakStep a).alarm a).state = .raising :=
  (congrArg (fun t : State => (t.alarm a).state) ((raiseSoakStep_of raising soak).trans
    (if_neg (Nat.not_le.mpr (Nat.succ_lt_succ short))))).trans (state_putSoak.trans raising)

theorem clearSoakStep_goes_on (clearing : (s.alarm a).state = .clearing) (soak : (s.alarm a).soak = some n)
    (short : n < 9) : ((s.clearSoakStep a).alarm a).state = .clearing :=
  (congrArg (fun t : State => (t.alarm a).state) ((clearSoakStep_of clearing soak).trans
    (if_neg (Nat.not_le.mpr (Nat.succ_lt_succ short))))).trans (state_putSoak.trans clearing)

end

/-- A row whose soak ends, as its claim says it. -/
theorem soak_ends {Q : AlarmState → AlarmState → Bool} {F : State → State} {a : AlarmId} {s u : State} {y : Alarm} {aud : Bool}
    {r : Report} (result : F s = u.reported (u.rung a y aud) r) (acts : Q (s.alarm a).state y.state = true) :
    ∃ t, (.next (ifOutcome (fun s t => Q (s.alarm a).state (t.alarm a).state) F s) : Host.Outcome State Fault Refusal) = .next t ∧
      (Agree [.pending, .inputs, .moment, .ports, .ssw, .groups, .imu, .csv, .tmu, .mci] u t ∧
        (∀ b, b ≠ a → t.alarm b = u.alarm b) ∧ t.RelayLaw ∧ t.alu.profiles = u.alu.profiles) ∧
      (t.queue.records = u.queue.records ++
        [{ sequence := u.queue.sequence, seconds := u.tmu.seconds, frame := u.tmu.frameCount, report := r }] ∧
      t.queue.sequence = (u.queue.sequence + 1) % 65536 ∧ t.queue.news.newRecord = true ∧ t.queue.lost = u.queue.lost) ∧
      t.alarm a = y ∧ t.alu.relays.aud = aud :=
  have facts := reported_facts u a y aud r
  have state : ((F s).alarm a).state = y.state :=
    (congrArg (fun t : State => (t.alarm a).state) result).trans (congrArg Alarm.state facts.2)
  ⟨_, congrArg Host.Outcome.next ((ifOutcome_acts ((congrArg (Q (s.alarm a).state) state).trans acts)).trans result),
    facts.1, ⟨rfl, rfl, rfl, rfl⟩, facts.2, rfl⟩

theorem soak_goes_on {Q : AlarmState → AlarmState → Bool} {F : State → State} {a : AlarmId} {s : State} {z : AlarmState}
    (result : ((F s).alarm a).state = z) (idle : Q (s.alarm a).state z = false) :
    (.next (ifOutcome (fun s t => Q (s.alarm a).state (t.alarm a).state) F s) : Host.Outcome State Fault Refusal) = .next s :=
  congrArg Host.Outcome.next (ifOutcome_idle ((congrArg (Q (s.alarm a).state) result).trans idle))

/-- A raise soak ends where the cell goes from RAISING to ACTIVE. -/
def raiseEnds (x y : AlarmState) : Bool := x == .raising && y == .active

/-- A clear soak ends where the cell leaves CLEARING. -/
def clearEnds (x y : AlarmState) : Bool := x == .clearing && y != .clearing

/-- Settles O48, by the state of the cell and the length of its soak. -/
theorem alarmSoaksEnd : Obligations.AlarmSoaksEnd := by
  intro a s u x e recorded frame room
  exact ⟨fun _n before raising soak => ⟨
      fun long => soak_ends (Q := raiseEnds) (raiseSoakStep_ends (s := u) room raising soak long)
        (congrArg (fun z => raiseEnds z .active) before),
      fun short => soak_goes_on (Q := raiseEnds) (raiseSoakStep_goes_on (s := u) raising soak short)
        (congrArg (fun z => raiseEnds z .raising) before)⟩,
    fun _n before clearing soak tick => ⟨
      fun long latch flag => soak_ends (Q := clearEnds)
        ((atTick_of_due tick).trans (clearSoakStep_latches (s := u) room clearing soak long latch flag))
        (congrArg (fun z => clearEnds z .latched) before),
      fun long plain => soak_ends (Q := clearEnds)
        ((atTick_of_due tick).trans (clearSoakStep_clears (s := u) room clearing soak long plain))
        (congrArg (fun z => clearEnds z .idle) before),
      fun short => soak_goes_on (Q := clearEnds)
        ((congrArg (fun t => (State.alarm t a).state) (atTick_of_due tick)).trans
          (clearSoakStep_goes_on (s := u) clearing soak short)) (congrArg (fun z => clearEnds z .clearing) before)⟩⟩

end Sys2Proof.Machine
end

section
/-! The periodic timer of the audits (R117). -/
namespace Sys2Proof.Machine

open Sys2Proof

set_option Elab.async false

theorem auditState_modCable {p : Fin 8} {f : Cable → Cable} {s : State}
    (same : (f (s.cable p)).suspended = (s.cable p).suspended) : (s.modCable p f).auditState p = s.auditState p := by
  have suspended : ((s.modCable p f).cable p).suspended = (s.cable p).suspended :=
    (congrArg Cable.suspended (State.cable_modCable_self s p f)).trans same
  delta State.auditState
  rw [suspended]
  rfl

theorem running_of_idle {p : Fin 8} {s : State} (idle : s.auditState p = .idle) : (s.cable p).suspended = false :=
  Bool.eq_false_of_not_eq_true fun h =>
    have state : s.auditState p = .suspended := if_pos h
    AuditState.noConfusion (state.symm.trans idle)

/-- The periodic timer of port `p` idle. -/
def State.disarm (p : Fin 8) (s : State) : State := s.modCable p fun c => { c with timer := none }

theorem periodicTick_due {p : Fin 8} {x : PeriodicTimer} {s : State} (timer : (s.cable p).timer = some x)
    (due : x.target ≤ x.count + 1) :
    s.periodicTick p =
      if s.auditState p = .idle then
        if (s.cable p).verdict.measurable then (s.disarm p).requestAudit p else s.startTimer p
      else s.disarm p := by
  delta State.periodicTick
  rw [timer]
  refine (if_pos due).trans ?_
  generalize s.auditState p = a
  induction a <;> rfl

section
variable {p : Fin 8} {x : PeriodicTimer} {s : State}

theorem periodicTick_measurable (timer : (s.cable p).timer = some x) (due : x.target ≤ x.count + 1)
    (idle : s.auditState p = .idle) (good : (s.cable p).verdict.measurable = true) :
    s.periodicTick p = { s.disarm p with
      csv := { (s.disarm p).csv with audits := s.csv.audits ++ [{ port := p, adHoc := false, burst := none }] } } :=
  (periodicTick_due timer due).trans <| (if_pos idle).trans <| (if_pos good).trans <|
    if_pos ((auditState_modCable rfl).trans idle)

theorem periodicTick_again (timer : (s.cable p).timer = some x) (due : x.target ≤ x.count + 1)
    (idle : s.auditState p = .idle) (bad : (s.cable p).verdict.measurable ≠ true) : s.periodicTick p = s.startTimer p :=
  (periodicTick_due timer due).trans ((if_pos idle).trans (if_neg bad))

theorem periodicTick_busy (timer : (s.cable p).timer = some x) (due : x.target ≤ x.count + 1)
    (busy : s.auditState p ≠ .idle) : s.periodicTick p = s.disarm p :=
  (periodicTick_due timer due).trans (if_neg busy)

end

theorem measurable_of {v : Verdict} (h : v = .traceOk ∨ v = .verified ∨ v = .length) : v.measurable = true :=
  h.elim (congrArg Verdict.measurable) fun h => h.elim (congrArg Verdict.measurable) (congrArg Verdict.measurable)

theorem of_measurable {v : Verdict} (h : v.measurable = true) : v = .traceOk ∨ v = .verified ∨ v = .length := by
  induction v with
  | traceOk => exact .inl rfl
  | verified => exact .inr (.inl rfl)
  | length => exact .inr (.inr rfl)
  | _ => exact absurd h Bool.false_ne_true

/-- The state with the periodic judgement of port `p` made, its timer `y`, the audit queue `a` and the dither `d`. -/
def State.timed (u : State) (p : Fin 8) (y : Option PeriodicTimer) (a : List AuditEntry) (d : BitVec 16) : State :=
  { u with
    moment := u.moment.made (.periodic p)
    csv := { u.csv with cables := u.csv.cables.set p.val { u.cable p with timer := y } p.isLt, audits := a, dither := d } }

theorem cable_timed (u : State) (p : Fin 8) (y : Option PeriodicTimer) (a : List AuditEntry) (d : BitVec 16) :
    (u.timed p y a d).cable p = { u.cable p with timer := y } :=
  State.cable_modCable_self u p fun c => { c with timer := y }

theorem timed_agree (u : State) (p : Fin 8) (y : Option PeriodicTimer) (a : List AuditEntry) (d : BitVec 16) :
    Agree [.pending, .inputs, .ports, .ssw, .groups, .imu, .tmu, .alu, .queue, .mci] u (u.timed p y a d) ∧
      ∀ q, q ≠ p → (u.timed p y a d).cable q = u.cable q :=
  ⟨.cons rfl <| .cons rfl <| .cons rfl <| .cons rfl <| .cons rfl <| .cons rfl <| .cons rfl <| .cons rfl <| .cons rfl <|
    .cons rfl <| .nil _ _, fun _ hq => State.cable_modCable_other u hq.symm fun c => { c with timer := y }⟩

/-- What the row looks for: the timer of a port at its target has been judged at a tick. -/
def timerRan (p : Fin 8) (s t : State) : Bool := s.periodicDue p && t.moment.tick && (s.cable p).timer != (t.cable p).timer

theorem periodicDue_of {p : Fin 8} {x : PeriodicTimer} {s : State} (timer : (s.cable p).timer = some x)
    (due : x.target ≤ x.count + 1) : s.periodicDue p = true := by
  delta State.periodicDue
  rw [timer]
  exact decide_eq_true due

section
variable {p : Fin 8} {x : PeriodicTimer} {s : State} {y : Option PeriodicTimer} {a : List AuditEntry} {d : BitVec 16}

theorem timerRan_timed (tick : s.openFrame.tickDue = true) (timer : (s.cable p).timer = some x)
    (due : x.target ≤ x.count + 1) (changed : y ≠ some x) : timerRan p s (s.openFrame.timed p y a d) = true :=
  have written : ((s.openFrame.timed p y a d).cable p).timer = y := congrArg Cable.timer (cable_timed _ p y a d)
  Bool.and_eq_true_iff.mpr ⟨Bool.and_eq_true_iff.mpr ⟨periodicDue_of timer due, Bool.and_elim_left tick⟩,
    bne_iff_ne.mpr fun same => changed (written.symm.trans (same.symm.trans timer))⟩

/-- The row at a tick, for a timer whose count has reached its target. -/
theorem periodicTimerExpiry_of (tick : s.openFrame.tickDue = true)
    (new : Judgement.periodic p ∉ s.openFrame.moment.done) (timer : (s.cable p).timer = some x)
    (due : x.target ≤ x.count + 1) (changed : y ≠ some x)
    (result : State.periodicTick p { s.openFrame with moment := s.openFrame.moment.made (.periodic p) } =
      s.openFrame.timed p y a d) : exec (.periodicTimerExpiry p) s = .next (s.openFrame.timed p y a d) :=
  have step : atTick (fun s => s.once (.periodic p) (State.periodicTick p)) s = _ :=
    (atTick_of_due tick).trans ((once_of_new (State.periodicTick p) new).trans result)
  congrArg Host.Outcome.next ((ifOutcome_acts (p := timerRan p)
    ((congrArg (timerRan p s) step).trans (timerRan_timed tick timer due changed))).trans step)

end

theorem fresh_ne {x : PeriodicTimer} {n : Nat} (due : x.target ≤ x.count + 1) (d : Nat) (h : 0 < n) :
    some ({ count := 0, target := 60 * n + d } : PeriodicTimer) ≠ some x := fun same =>
  have fresh : ({ count := 0, target := 60 * n + d } : PeriodicTimer) = x := Option.some.inj same
  have soon : 60 * n + d ≤ 1 := (congrArg (fun y : PeriodicTimer => y.target ≤ y.count + 1) fresh).mpr due
  absurd ((Nat.le_add_right_of_le (Nat.mul_le_mul_left 60 h)).trans soon) (by decide : ¬60 * 1 ≤ 1)

theorem startTimer_of {p : Fin 8} {s : State} (period : 0 < (s.cable p).record.period) (closed : (s.cable p).window = none)
    (running : (s.cable p).suspended = false) :
    s.startTimer p = s.advanceDither.modCable p fun c =>
      { c with timer := some { count := 0, target := 60 * (s.cable p).record.period + s.nextDraw.toNat } } := by
  refine if_neg fun h => ?_
  rcases h with h | h | h
  · exact period.ne' h
  · exact Bool.false_ne_true ((congrArg Option.isSome closed).symm.trans h)
  · exact Bool.false_ne_true (running.symm.trans h)

/-- Settles O36, by the audit state of the port. -/
theorem periodicTimerExpires : Obligations.PeriodicTimerExpires := by
  intro p x s u c tick new running timer due draw again good frame
  exact ⟨fun idle measurable => ⟨_, periodicTimerExpiry_of tick new running due (Option.some_ne_none x).symm
      (periodicTick_measurable (s := { u with moment := u.moment.made (.periodic p) }) timer due idle
        (measurable_of measurable)), timed_agree u p _ _ _, cable_timed u p _ _ _, rfl⟩,
    fun idle bad period closed => ⟨_, periodicTimerExpiry_of tick new running due (fresh_ne due _ period)
      ((periodicTick_again (s := { u with moment := u.moment.made (.periodic p) }) timer due idle
        fun h => bad (of_measurable h)).trans (startTimer_of period closed (running_of_idle idle))),
      timed_agree u p (some again) u.csv.audits (ditherNext u.csv.dither), rfl, rfl, cable_timed u p _ _ _⟩,
    fun busy => ⟨_, periodicTimerExpiry_of tick new running due (Option.some_ne_none x).symm
      (periodicTick_busy (s := { u with moment := u.moment.made (.periodic p) }) timer due busy), timed_agree u p _ _ _, rfl,
      cable_timed u p _ _ _⟩⟩

end Sys2Proof.Machine
end

section
/-! The laws after reset: each is evaluated, or read from what reset leaves. -/
namespace Sys2Proof.Machine

open Sys2Proof

set_option Elab.async false

/-- What holds of the 106 cells by their index holds of every cell. -/
theorem forall_alarm {P : AlarmId → Prop} (h : ∀ n, P (alarmOf n)) (a : AlarmId) : P a := alarmOf_index a ▸ h a.index

/-- Whether a cell's action flag is what mode `m` says. -/
def Alarm.flagOkB (m : Mode) (x : Alarm) : Bool :=
  match m with
  | .auto => x.flag == x.present
  | .latch => !x.present || x.flag
  | .report => !x.flag
  | .off => !x.flag

theorem cells_reset (a : AlarmId) : (State.reset.alarm a).flagOkB (State.reset.entryOf a).mode = true ∧
    (State.reset.alarm a).present = State.reset.defect a :=
  forall_alarm (P := fun a => (State.reset.alarm a).flagOkB (State.reset.entryOf a).mode = true ∧
    (State.reset.alarm a).present = State.reset.defect a) (by decide +kernel) a

theorem flagLaw_of_flags {s : State} (h : ∀ a, (s.alarm a).flagOkB (s.entryOf a).mode = true) : s.FlagLaw := fun a => by
  have ok := h a
  revert ok
  generalize (s.entryOf a).mode = m
  induction m with
  | auto => exact eq_of_beq
  | latch => exact fun ok present => (congrArg (fun b => (!b || (s.alarm a).flag)) present).symm.trans ok
  | _ => exact fun ok => (Bool.not_eq_true' _).mp ok

theorem generatorLaw_reset : State.reset.GeneratorLaw := by
  unfold State.GeneratorLaw
  decide +kernel

theorem selectionLaw_reset : State.reset.SelectionLaw := by
  unfold State.SelectionLaw
  decide +kernel

theorem numbers_reset : ∀ i (h : i < State.reset.queue.records.length),
    (State.reset.queue.records[i].sequence + (State.reset.queue.records.length - i)) % 65536 = State.reset.queue.sequence := by
  intro i h
  cases Nat.lt_one_iff.mp h
  rfl

theorem groups_reset : State.reset.GroupLaw := by
  unfold State.GroupLaw GroupRecord.sound GroupRecord.hasMember
  exact ⟨by decide +kernel, by decide +kernel, fun r due => absurd due.symm (Option.some_ne_none r)⟩

theorem map_reset : ∀ i : Fin 256, (SlotSwitch.coldMap false)[i.val]'i.isLt = .unequipped := by decide +kernel

theorem uniqueMap_cold : uniqueMap (SlotSwitch.coldMap false) := fun i _j _same held => absurd (map_reset i) held

theorem mapLaw_reset : State.reset.MapLaw :=
  ⟨uniqueMap_cold, uniqueMap_cold, fun i _g _n held => absurd ((map_reset i).symm.trans held) MapEntry.noConfusion⟩

theorem selectorLaw_reset : State.reset.SelectorLaw := by
  unfold State.SelectorLaw
  decide +kernel

theorem verniers_reset : ∀ v, (State.reset.vernier v).cal = none ∧ (State.reset.vernier v).state ≠ .calFault := by
  decide +kernel

theorem vernierLaw_reset : State.reset.VernierLaw := fun v =>
  ⟨fun n h => absurd (h.symm.trans (verniers_reset v).1) (Option.some_ne_none n), fun _fault => (verniers_reset v).1,
    fun h => absurd h (verniers_reset v).2⟩

theorem auditLaw_reset : State.reset.AuditLaw := by
  unfold State.AuditLaw
  decide +kernel

theorem windowLaw_reset : State.reset.WindowLaw := by
  unfold State.WindowLaw
  decide +kernel

theorem receiverLaw_reset : State.reset.ReceiverLaw := by
  unfold State.ReceiverLaw
  decide +kernel

theorem relayLaw_reset : State.reset.RelayLaw := by
  unfold State.RelayLaw
  decide +kernel

theorem refs_reset : ∀ k, (State.reset.cand k).entry.enabled = false → (State.reset.cand k).ref = false := by decide +kernel

theorem markers_reset : ∀ p, 0 < (State.reset.cable p).record.burst ∧ (State.reset.cable p).markerOut = false ∧
    (State.reset.cable p).echoOut = none := by decide +kernel

theorem markerLaw_reset : State.reset.MarkerLaw :=
  ⟨fun p => (markers_reset p).1, fun _e h => (List.not_mem_nil h).elim, fun b h => absurd h.symm (Option.some_ne_none b),
    fun _closed p => (markers_reset p).2⟩

/-- Settles O3. -/
theorem lawsHoldAtReset : Obligations.LawsHoldAtReset :=
  ⟨generatorLaw_reset, selectionLaw_reset,
    ⟨Nat.le_of_ble_eq_true rfl, Nat.lt_of_sub_eq_succ rfl, numbers_reset, (cells_reset .qovf).2⟩,
    ⟨Nat.zero_le _, fun h => absurd h Bool.false_ne_true⟩, groups_reset, mapLaw_reset, selectorLaw_reset, vernierLaw_reset,
    auditLaw_reset, windowLaw_reset, receiverLaw_reset, flagLaw_of_flags fun a => (cells_reset a).1, relayLaw_reset,
    ⟨fun a => (cells_reset a).2, refs_reset⟩, markerLaw_reset⟩

end Sys2Proof.Machine
end

section
/-! The writes to the Slot Map (2.2, 10.5). -/
namespace Sys2Proof.Machine

open Sys2Proof

set_option Elab.async false

/-! ### A WRITE of one entry (R194) -/

/-- What a WRITE of the one entry `i` answers and leaves, by the judgement of the entry. -/
def Written.outcome (i : Nat) (s : State) (w : Written) : Result × Option Nat × State :=
  match w with
  | .refused r => (r, some i, s)
  | .applied c t => (doneOr c, none, t)

theorem doWrite_one {s : State} {x : Object} {i : Nat} {e : List Byte} {w : Result × Option Nat × State}
    (index : i + 1 ≤ x.entries) (judged : writeEntries x i [e] false s = w) :
    s.doWrite x i [e] =
      ({ result := w.1, data := refusedIndex w.2.1,
         effect := if !s.changePending && w.2.2.changePending then .deferred else .plain }, w.2.2) :=
  judged ▸ if_neg (Nat.not_lt.mpr index)

theorem effect_of_same (b : Bool) : (if !b && b then ReplyEffect.deferred else .plain) = .plain := by
  induction b <;> rfl

section
variable {s : State} {first kind group slot : Byte}

/-- WRITE MAP of one entry is the write of that entry. -/
theorem writeCommand_map (free : s.changePending = false) :
    s.writeCommand [2, first, kind, group, slot] = s.doWrite .map first.toNat [[kind, group, slot]] :=
  have whole : ¬(List.isEmpty [kind, group, slot] = true ∨ 3 % 3 ≠ 0) := fun h => h.elim Bool.false_ne_true fun h => h rfl
  (if_neg whole).trans (if_neg fun h => Bool.false_ne_true (free.symm.trans h.1))

theorem writeEntries_map {i : Fin 256} {w : Written} (index : first.toNat = i)
    (judged : s.writeMapEntry i [kind, group, slot] = w) :
    writeEntries .map first.toNat [[kind, group, slot]] false s = w.outcome first.toNat s :=
  have same : (⟨first.toNat % 256, Nat.mod_lt _ (Nat.zero_lt_succ 255)⟩ : Fin 256) = i :=
    Fin.ext ((Nat.mod_eq_of_lt first.isLt).trans index)
  congrArg (Written.outcome first.toNat s) ((congrArg (fun i => s.writeMapEntry i [kind, group, slot]) same).trans judged)

/-- A WRITE of one map entry, by the judgement of the entry. -/
theorem writeMap_of {tag : Byte} {i : Fin 256} {w : Written} {r : Result} {j : Option Nat} {t : State}
    (take : s.canTake = true) (free : s.changePending = false) (index : first.toNat = i)
    (judged : s.writeMapEntry i [kind, group, slot] = w) (outcome : w.outcome first.toNat s = (r, j, t))
    (still : t.changePending = s.changePending) :
    exec (.writeMap tag first [kind, group, slot]) s =
      .next (t.answered tag 2 { Answer.plain r with data := refusedIndex j }) :=
  have executed : s.execute 2 [2, first, kind, group, slot] = (_, t) :=
    (writeCommand_map free).trans (doWrite_one first.isLt ((writeEntries_map index judged).trans outcome))
  have plain : (if !s.changePending && t.changePending then ReplyEffect.deferred else .plain) = .plain :=
    still.symm ▸ effect_of_same s.changePending
  congrArg Host.Outcome.next <| (takeCommand_of_canTake take tag 2 _).trans <|
    (congrArg (fun a => State.answered tag 2 a.1 a.2) executed).trans <|
      congrArg (fun f => State.answered tag 2 { result := r, data := refusedIndex j, effect := f } t) plain

end

/-! ### The entries (R23) -/

/-- The stored map with entry `i` written. -/
def State.mapWritten (s : State) (i : Fin 256) (x : MapEntry) : State :=
  { s with ssw := { s.ssw with storedMap := s.ssw.storedMap.set i.val x i.isLt } }

/-- Entry `i` mapped to line slot `k` of group `g`, where the group is defined and the slot free. -/
def State.mapTo (s : State) (i : Fin 256) (g : Fin 8) (k : Fin 40) : Written :=
  if (s.group g).defined && !s.joinedElsewhere i (.mapped g k) then .applied false (s.mapWritten i (.mapped g k))
  else .refused .badValue

/-- A MAPPED entry that names group `group` and line slot `slot`. -/
def State.mapJoined (s : State) (i : Fin 256) (group slot : Byte) : Written :=
  if h : group.toNat < 8 ∧ slot.toNat < 40 then s.mapTo i ⟨group.toNat, h.1⟩ ⟨slot.toNat, h.2⟩ else .refused .badValue

section
variable {s : State} {i : Fin 256} {kind group slot : Byte} {g : Fin 8} {k : Fin 40}

theorem writeMapEntry_eq : s.writeMapEntry i [kind, group, slot] =
    if kind.toNat = 0 then .applied false (s.mapWritten i .unequipped)
    else if kind.toNat = 1 then s.mapJoined i group slot else .refused .badValue := rfl

theorem writeMapEntry_unequipped (h : kind.toNat = 0) :
    s.writeMapEntry i [kind, group, slot] = .applied false (s.mapWritten i .unequipped) :=
  writeMapEntry_eq.trans (if_pos h)

theorem writeMapEntry_mapped (h : kind.toNat = 1) (hg : group.toNat = g) (hk : slot.toNat = k) :
    s.writeMapEntry i [kind, group, slot] = s.mapTo i g k :=
  have one : kind.toNat ≠ 0 := h.trans_ne Nat.one_ne_zero
  have inRange : group.toNat < 8 ∧ slot.toNat < 40 := ⟨hg ▸ g.isLt, hk ▸ k.isLt⟩
  have same : s.mapTo i ⟨group.toNat, inRange.1⟩ ⟨slot.toNat, inRange.2⟩ = s.mapTo i g k :=
    congrArg₂ (s.mapTo i) (Fin.ext hg) (Fin.ext hk)
  writeMapEntry_eq.trans ((if_neg one).trans ((if_pos h).trans ((dif_pos inRange).trans same)))

theorem writeMapEntry_refused (h : 1 < kind.toNat ∨ (kind = 1 ∧ (8 ≤ group.toNat ∨ 40 ≤ slot.toNat))) :
    s.writeMapEntry i [kind, group, slot] = .refused .badValue := by
  have present : kind.toNat ≠ 0 := fun zero =>
    h.elim (fun h => Nat.not_lt_zero 1 (zero ▸ h)) fun h => Nat.one_ne_zero ((congrArg BitVec.toNat h.1).symm.trans zero)
  refine writeMapEntry_eq.trans ((if_neg present).trans ?_)
  by_cases one : kind.toNat = 1
  · have out := (h.resolve_left fun many => Nat.lt_irrefl 1 (one ▸ many)).2
    exact (if_pos one).trans (dif_neg fun inRange => out.elim (Nat.not_le.mpr inRange.1) (Nat.not_le.mpr inRange.2))
  · exact if_neg one

theorem mapTo_of_free (defined : (s.group g).defined = true)
    (free : ∀ m : Fin 256, m ≠ i → s.ssw.storedMap[m.val]'m.isLt ≠ .mapped g k) :
    s.mapTo i g k = .applied false (s.mapWritten i (.mapped g k)) :=
  have alone : s.joinedElsewhere i (.mapped g k) = false := List.any_eq_false.mpr fun m _mem joined =>
    free m (bne_iff_ne.mp (Bool.and_elim_left joined)) (eq_of_beq (Bool.and_elim_right joined))
  if_pos (Bool.and_eq_true_iff.mpr ⟨defined, congrArg not alone⟩)

theorem mapTo_refused
    (bad : (s.group g).defined = false ∨ ∃ m : Fin 256, m ≠ i ∧ s.ssw.storedMap[m.val]'m.isLt = .mapped g k) :
    s.mapTo i g k = .refused .badValue :=
  if_neg fun sound => bad.elim (fun h => Bool.false_ne_true (h.symm.trans (Bool.and_elim_left sound))) fun h => h.elim
    fun m h =>
      have joined : s.joinedElsewhere i (.mapped g k) = true := List.any_eq_true.mpr
        ⟨m, List.mem_finRange m, Bool.and_eq_true_iff.mpr ⟨bne_iff_ne.mpr h.1, beq_iff_eq.mpr h.2⟩⟩
      Bool.false_ne_true ((congrArg not joined).symm.trans (Bool.and_elim_right sound))

end

/-- Settles O18, by the kind of the entry and the soundness of what it maps. -/
theorem mapWrites : Obligations.MapWrites := by
  intro tag first kind group slot s take free n reply store
  exact ⟨fun zero => writeMap_of (i := n) take free rfl (writeMapEntry_unequipped (congrArg BitVec.toNat zero)) rfl rfl,
    fun g k one hg hk => ⟨fun defined alone => writeMap_of (i := n) take free rfl
        ((writeMapEntry_mapped (congrArg BitVec.toNat one) hg hk).trans (mapTo_of_free defined alone)) rfl rfl,
      fun bad => writeMap_of (i := n) take free rfl
        ((writeMapEntry_mapped (congrArg BitVec.toNat one) hg hk).trans (mapTo_refused bad)) rfl rfl⟩,
    fun h => writeMap_of (i := n) take free rfl (writeMapEntry_refused h) rfl rfl⟩

end Sys2Proof.Machine
end

section
/-! Multiframe alignment is reached and lost (1.2, 4.1, 6.2, 6.4). -/
namespace Sys2Proof.Machine

open Sys2Proof

set_option Elab.async false

/-! ### A step for every group -/

section
variable {F : State → Fin 8 → State} {f : Group → Group} {g : Fin 8}

theorem group_foldl_out (other : ∀ t a, a ≠ g → (F t a).group g = t.group g) {l : List (Fin 8)} (out : g ∉ l) (s : State) :
    (l.foldl F s).group g = s.group g := by
  induction l generalizing s with
  | nil => rfl
  | cons a l ih =>
    exact (ih (fun h => out (List.mem_cons_of_mem a h)) _).trans (other s a fun same => out (same ▸ List.mem_cons_self))

/-- Steps that each change their own group alone, taken for every group, change group `g` as its own step does. -/
theorem group_foldl_in (other : ∀ t a, a ≠ g → (F t a).group g = t.group g) (self : ∀ t, (F t g).group g = f (t.group g))
    {l : List (Fin 8)} (once : l.Nodup) (mem : g ∈ l) (s : State) : (l.foldl F s).group g = f (s.group g) := by
  induction l generalizing s with
  | nil => exact absurd mem List.not_mem_nil
  | cons a l ih =>
    have split := List.nodup_cons.mp once
    by_cases here : a = g
    · cases here
      exact (group_foldl_out other split.1 _).trans (self s)
    · exact (ih split.2 ((List.mem_cons.mp mem).resolve_left fun h => here h.symm) _).trans (congrArg f (other s a here))

end

/-! ### The received switch signals end (R67) -/

/-- Whether a group reads its switch signal from port `p`. -/
def Group.reads (p : Fin 8) (x : Group) : Bool := x.record.working.isSome && x.record.protection == some p

/-- The received switch signal of a group ended, where it is read from port `p`. -/
def Group.signalLost (p : Fin 8) (x : Group) : Group :=
  if x.reads p then { x with accepted := none, candidate := none, run := 0 } else x

/-- The received switch signal of group `g` ended, where it is read from port `p`. -/
def State.loseSignal (p : Fin 8) (t : State) (g : Fin 8) : State := if (t.group g).reads p then t.signalAbsent g else t

theorem group_loseSignal_other {p a g : Fin 8} (t : State) (h : a ≠ g) : (t.loseSignal p a).group g = t.group g := by
  unfold State.loseSignal
  split
  · exact State.group_modGroup_other t h _
  · rfl

theorem group_loseSignal_self (p g : Fin 8) (t : State) : (t.loseSignal p g).group g = (t.group g).signalLost p := by
  unfold State.loseSignal Group.signalLost
  split
  · exact State.group_modGroup_self t g _
  · rfl

/-- The groups after the end of the received switch signals that are read from port `p`. -/
@[irreducible] def State.groupsLost (p : Fin 8) (s : State) : Vector Group 8 := (s.signalLost p).groups

theorem loseSignal_eq (p g : Fin 8) (t : State) : ∃ v, t.loseSignal p g = { t with groups := v } := by
  unfold State.loseSignal
  split
  · exact ⟨_, rfl⟩
  · exact ⟨t.groups, rfl⟩

theorem foldl_loseSignal (p : Fin 8) (l : List (Fin 8)) (s : State) :
    ∃ v, l.foldl (State.loseSignal p) s = { s with groups := v } := by
  induction l generalizing s with
  | nil => exact ⟨s.groups, rfl⟩
  | cons a l ih =>
    exact (loseSignal_eq p a s).elim fun v step => (ih (s.loseSignal p a)).elim fun w rest =>
      ⟨w, rest.trans (congrArg (fun t : State => { t with groups := w }) step)⟩

theorem signalLost_eq (p : Fin 8) (s : State) : s.signalLost p = { s with groups := s.groupsLost p } := by
  unfold State.groupsLost
  exact (foldl_loseSignal p (List.finRange 8) s).elim fun v (h : s.signalLost p = _) =>
    h.trans (congrArg (fun w => ({ s with groups := w } : State)) (congrArg State.groups h).symm)

theorem group_signalLost (p g : Fin 8) (s : State) : (s.signalLost p).group g = (s.group g).signalLost p :=
  group_foldl_in (F := State.loseSignal p) (fun t _a => group_loseSignal_other t) (group_loseSignal_self p g)
    (List.nodup_finRange 8) (List.mem_finRange g) s

theorem reads_iff (p : Fin 8) (x : Group) :
    x.reads p = true ↔ x.record.working.isSome ∧ x.record.protection = some p :=
  (Bool.and_eq_true _ _).to_iff.trans (and_congr_right' beq_iff_eq)

theorem accepted_signalLost (p : Fin 8) (x : Group) : (x.signalLost p).accepted =
    if x.record.working.isSome ∧ x.record.protection = some p then none else x.accepted := by
  by_cases h : x.reads p = true
  · have lost : x.signalLost p = _ := if_pos h
    exact (congrArg Group.accepted lost).trans (if_pos ((reads_iff p x).mp h)).symm
  · have kept : x.signalLost p = _ := if_neg h
    exact (congrArg Group.accepted kept).trans (if_neg fun k => h ((reads_iff p x).mpr k)).symm

/-! ### The port -/

theorem multiframeAligned_of {p : Fin 8} {q : BitVec 4} {s : State} (sync : (s.port p).align = .sync)
    (before : (s.port p).aligned = false) (one : (s.port p).inSequence = 1) (predecessor : (s.port p).predecessor = some q) :
    s.multiframeAligned p = s.modPort p (Port.reachMultiframe (q + 2)) := by
  delta State.multiframeAligned
  dsimp only
  rw [predecessor]
  exact if_pos ⟨sync, before, one⟩

/-- The port out of multiframe alignment, with `q` as its first predecessor. -/
def Port.unaligned (q : BitVec 4) (x : Port) : Port :=
  { x with aligned := false, predecessor := some q, inSequence := 0, mismatched := false }

section
variable (p : Fin 8) (q : BitVec 4) (s : State)

/-- The state after port `p` has lost multiframe alignment. -/
def State.unaligned : State :=
  State.traceGap p { s.modPort p (Port.unaligned q) with groups := (s.modPort p (Port.unaligned q)).groupsLost p }

theorem loseMultiframe_eq : s.loseMultiframe p (some q) = s.unaligned p q :=
  congrArg (State.traceGap p) (signalLost_eq p (s.modPort p (Port.unaligned q)))

theorem records_unaligned : (s.unaligned p q).records = s.records :=
  (congrArg State.records (signalLost_eq p (s.modPort p (Port.unaligned q)))).symm.trans
    ((agree_signalLost p (s.modPort p (Port.unaligned q))).get .records (by decide))

theorem accepted_unaligned (g : Fin 8) : ((s.unaligned p q).group g).accepted =
    if (s.group g).record.working.isSome ∧ (s.group g).record.protection = some p then none else (s.group g).accepted :=
  (congrArg (fun t : State => (t.group g).accepted) (signalLost_eq p (s.modPort p (Port.unaligned q)))).symm.trans
    ((congrArg Group.accepted (group_signalLost p g _)).trans (accepted_signalLost p _))

theorem agree_unaligned : Agree [.pending, .inputs, .moment, .ssw, .records, .imu, .tmu, .alu, .queue, .mci] s
    (s.unaligned p q) :=
  .cons rfl <| .cons rfl <| .cons rfl <| .cons rfl <| .cons (records_unaligned p q s) <| .cons rfl <| .cons rfl <|
    .cons rfl <| .cons rfl <| .cons rfl <| .nil _ _

theorem port_unaligned : (s.unaligned p q).port p = (s.port p).unaligned q := State.port_modPort_self s p _

theorem cable_unaligned : (s.unaligned p q).cable p =
    { (s.cable p).dropEcho with traceCandidate := none, traceRun := 0, collecting := none } :=
  State.cable_modCable_self { s.modPort p (Port.unaligned q) with groups := _ } p _

end

/-- Settles O10. -/
theorem multiframeAlignmentChanges : Obligations.MultiframeAlignmentChanges := by
  intro p s sync
  exact ⟨fun q before one predecessor => congrArg Host.Outcome.next (multiframeAligned_of sync before one predecessor),
    fun q aligned mismatched differs => ⟨s.unaligned p q,
      congrArg Host.Outcome.next ((if_pos ⟨sync, aligned, mismatched, differs⟩).trans (loseMultiframe_eq p q s)),
      agree_unaligned p q s, fun _r h => State.port_modPort_other s h.symm _,
      fun _r h => State.cable_modCable_other { s.modPort p (Port.unaligned q) with groups := _ } h.symm _,
      (congrArg Port.align (port_unaligned p q s)).trans sync, congrArg Port.aligned (port_unaligned p q s),
      congrArg Port.inSequence (port_unaligned p q s), congrArg Port.predecessor (port_unaligned p q s),
      congrArg Cable.traceCandidate (cable_unaligned p q s), congrArg Cable.traceRun (cable_unaligned p q s),
      congrArg Cable.pendingEcho (cable_unaligned p q s), (congrArg Cable.accepted (cable_unaligned p q s) :),
      (congrArg Cable.verdict (cable_unaligned p q s) :), accepted_unaligned p q s⟩⟩

end Sys2Proof.Machine
end

section
/-!
The passing of time, an empty queue's clock edge (log entry 1), and a pending echo.
-/
namespace Sys2Proof.Machine

open Sys2Proof

set_option Elab.async false

/-! ### What the passing of time leaves: no echo is sent, and no clock but the one that passes -/

theorem ite_cases {α : Type} {P : α → Prop} {c : Prop} [Decidable c] {t u : α} (h : c → P t) (k : ¬c → P u) :
    P (if c then t else u) :=
  if holds : c then (if_pos holds).symm ▸ h holds else (if_neg holds).symm ▸ k holds

/-- From `s` to `t` no clock of the measurement unit has passed, and no echo has been sent. -/
def Waits (s t : State) : Prop := t.imu.clk = s.imu.clk ∧ ∀ p, (t.cable p).echoOut = (s.cable p).echoOut

namespace Waits
variable {s t u : State}

theorem start (s : State) : Waits s s := ⟨rfl, fun _p => rfl⟩

theorem trans (h : Waits s t) (k : Waits t u) : Waits s u :=
  ⟨k.1.trans h.1, fun p => (k.2 p).trans (h.2 p)⟩

theorem ite {c : Prop} [Decidable c] (h : Waits s t) (k : Waits s u) : Waits s (if c then t else u) :=
  ite_cases (fun _c => h) fun _c => k

theorem still (clk : t.imu.clk = s.imu.clk) (csv : t.csv.cables = s.csv.cables) : Waits s t :=
  ⟨clk, fun p => congrArg (fun x : Vector Cable 8 => (x[p.val]'p.isLt).echoOut) csv⟩

theorem timing (h : Waits s t) (k : Agree timingKeeps t u) : Waits s u :=
  h.trans (still (congrArg Imu.clk (k.get .imu (by decide))) (congrArg Csv.cables (k.get .csv (by decide))))

theorem alarm (h : Waits s t) (k : Agree alarmKeeps t u) : Waits s u := h.timing (timing_of_alarm k)

theorem cable (h : Waits s t) {p : Fin 8} {f : Cable → Cable} (same : (f (t.cable p)).echoOut = (t.cable p).echoOut) :
    Waits s (t.modCable p f) := by
  refine h.trans ⟨rfl, fun q => ?_⟩
  by_cases hq : p = q
  · exact hq ▸ (congrArg Cable.echoOut (State.cable_modCable_self t p f)).trans same
  · exact congrArg Cable.echoOut (State.cable_modCable_other t hq f)

theorem unmark (h : Waits s t) (p : Fin 8) : Waits s (t.unmark p) := by
  delta State.unmark
  induction t.membership p with
  | none => exact h
  | some x =>
    induction x with
    | mk g m =>
      induction m with
      | w => exact h.trans (still rfl rfl)
      | p => exact h.trans (still rfl rfl)

theorem told (h : Waits s t) (p : Fin 8) (v : Verdict) (w : Option Nat) (barred : Bool) :
    Waits s ((((t.deliver (.port p .tim) (v == .misconnected)).deliver (.port p .loop) (v == .looped)).deliverValue
      (.port p .len) (v == .length) w).verdictToTiming p barred) :=
  (((h.alarm (agree_deliver _ _ _)).alarm (agree_deliver _ _ _)).alarm (agree_deliverValue _ _ _ _)).timing
    (agree_verdictToTiming _ _ _)

theorem setVerdict (h : Waits s t) (p : Fin 8) (v : Verdict) : Waits s (t.setVerdict p v) := by
  have written : Waits s (t.modCable p fun c => { if v = .looped then c.dropEcho else c with verdict := v }) :=
    h.cable ((apply_ite Cable.echoOut _ _ _).trans (ite_self _))
  exact ite ((written.told p v _ _).unmark p) (written.told p v _ _)

theorem startTimer (h : Waits s t) (p : Fin 8) : Waits s (t.startTimer p) :=
  ite (h.cable rfl) ((h.trans (still (t := t.advanceDither) rfl rfl)).cable rfl)

theorem judgeAudit (h : Waits s t) (p : Fin 8) (x : AuditResult) : Waits s (t.judgeAudit p x) := by
  have noted (c : Cable) :
      (if (t.cable p).record.judge x = .length then { c with lenDelay := x.delay.getD 0 } else c).echoOut = c.echoOut :=
    (apply_ite Cable.echoOut _ _ _).trans (ite_self _)
  refine ite ?_ (ite ((h.cable (noted _)).setVerdict p _) h)
  induction (t.cable p).pendingVerdict with
  | none => exact h
  | some w => exact ite (h.cable (noted _)) h

theorem closeBurst (h : Waits s t) (b : Burst) : Waits s (t.closeBurst b) :=
  h.trans (ite (still rfl rfl) (still rfl rfl))

theorem endAudit (h : Waits s t) : Waits s t.endAudit := by
  delta State.endAudit
  induction t.imu.burst with
  | none => exact h
  | some b =>
    have ended : Waits s (t.closeBurst b).endMarkers := (h.closeBurst b).trans (still rfl rfl)
    have pushed := (ended.cable (p := b.port) (f := fun c => { c with lastResult := some b.reduce }) rfl).alarm
      (agree_push (.audit b.port b.reduce) _)
    exact ite (((pushed.cable rfl).judgeAudit _ _).startTimer _)
      (ite (((pushed.cable rfl).cable rfl).alarm (agree_deliver _ _ _))
        ((pushed.cable rfl).startTimer _))

theorem resolveSlot (h : Waits s t) (f : SampleSlot → SampleSlot) : Waits s (t.resolveSlot f) := by
  delta State.resolveSlot
  induction t.imu.burst with
  | none => exact h
  | some b =>
    have noted : Waits s { t with imu := { t.imu with burst := some (b.onOutstanding f) } } := h.trans (still rfl rfl)
    exact ite noted.endAudit noted

theorem echoReport (h : Waits s t) (x : Stamp) (ta : BitVec 24) : Waits s (t.echoReport x ta) := by
  delta State.echoReport
  induction t.imu.burst with
  | none => exact h
  | some b => exact h.resolveSlot _

theorem stampToAudit (h : Waits s t) (ta : Option (BitVec 24)) (x : Stamp) : Waits s (t.stampToAudit ta x) := by
  delta State.stampToAudit
  induction ta with
  | none => exact h
  | some f =>
    induction t.imu.burst with
    | none => exact h
    | some b => exact ite (h.echoReport x f) h

theorem foldl {α : Type} {f : State → α → State} (keeps : ∀ s a, Waits s (f s a)) (l : List α) (h : Waits s t) :
    Waits s (l.foldl f t) := by
  induction l generalizing t with
  | nil => exact h
  | cons a l ih => exact ih (h.trans (keeps t a))

theorem stampToEcho (h : Waits s t) (v : Fin 4) (x : Stamp) : Waits s (t.stampToEcho v x) :=
  foldl (fun u _ => (start u).cable
    (f := fun c => if c.awaited = some v then { c with pendingEcho := some x, awaited := none } else c)
    ((apply_ite Cable.echoOut _ _ _).trans (ite_self _))) _ h

theorem stampToCandidate (h : Waits s t) (k : Option (Fin 10)) (x : Stamp) : Waits s (t.stampToCandidate k x) := by
  induction k with
  | none => exact h
  | some k => exact h.timing (agree_phaseSample _ _ _)

theorem beginTurn (h : Waits s t) (v : Fin 4) : Waits s (t.beginTurn v) := by
  delta State.beginTurn
  induction (t.vernier v).state with
  | busy _c => exact h.trans (still rfl rfl)
  | free => exact h.trans (still rfl rfl)
  | calibrating => exact h.trans (still rfl rfl)
  | calFault => exact h.trans (still rfl rfl)

theorem turned (h : Waits s t) (v : Fin 4) : Waits s (match t.imu.round with
    | some r => if r.turn = v ∧ r.begun = false then t.beginTurn v else t
    | none => t) := by
  induction t.imu.round with
  | none => exact h
  | some r => exact ite (h.beginTurn v) h

theorem missSample (h : Waits s t) (k : Fin 10) : Waits s (t.missSample k) :=
  ite (h.timing (agree_phaseSample k none t)) h

theorem stamped (h : Waits s t) (reference : Bool) (x : Fin 4 → Stamped) (f : Fin 4 → Vernier → Vernier) (y : Stamp)
    (k : Option (Fin 10)) : Waits s (match t.arbitrate reference with
      | some v => (x v, t.modVernier v (f v))
      | none => (⟨y, none⟩, State.stampToCandidate k y
          { t with imu := { t.imu with coarseCount := bump t.imu.coarseCount 65535 } }) : Stamped × State).2 := by
  induction t.arbitrate reference with
  | some v => exact h.trans (still rfl rfl)
  | none => exact (h.trans (u := { t with imu := { t.imu with coarseCount := bump t.imu.coarseCount 65535 } })
      (still rfl rfl)).stampToCandidate k y

theorem stampArrival (h : Waits s t) (tap : BitVec 6) (k : Fin 10) : Waits s (t.stampArrival tap (some k)).2 :=
  (h.timing (agree_modCand k (fun c => { c with claim := false }) t)).stamped _ _ _ _ _

end Waits

/-- From `s` to `t` the clock has passed to `n` at most, and no echo has been sent. -/
def Passes (n : Nat) (s t : State) : Prop :=
  t.imu.clk ≤ max s.imu.clk n ∧ ∀ p, (t.cable p).echoOut = (s.cable p).echoOut

namespace Passes
variable {n : Nat} {s t u : State}

theorem start (n : Nat) (s : State) : Passes n s s := ⟨Nat.le_max_left _ _, fun _p => rfl⟩

theorem trans (h : Passes n s t) (k : Passes n t u) : Passes n s u :=
  ⟨k.1.trans (Nat.max_le.mpr ⟨h.1, Nat.le_max_right _ _⟩), fun p => (k.2 p).trans (h.2 p)⟩

theorem waits (h : Passes n s t) (k : Waits t u) : Passes n s u :=
  ⟨k.1.trans_le h.1, fun p => (k.2 p).trans (h.2 p)⟩

theorem ite {c : Prop} [Decidable c] (h : Passes n s t) (k : Passes n s u) : Passes n s (if c then t else u) :=
  ite_cases (fun _c => h) fun _c => k

theorem advanceClock (h : Passes n s t) {m : Nat} (le : m ≤ n) : Passes n s (t.advanceClock m) :=
  h.trans ⟨max_le_max_left _ le, fun _p => rfl⟩

theorem foldl {α : Type} {f : State → α → State} (keeps : ∀ s a, Passes n s (f s a)) (l : List α) (h : Passes n s t) :
    Passes n s (l.foldl f t) := by
  induction l generalizing t with
  | nil => exact h
  | cons a l ih => exact ih (h.trans (keeps t a))

theorem complete (h : Passes n s t) {v : Fin 4} (due : ∀ d, (t.vernier v).due = some d → d ≤ n) :
    Passes n s (t.complete v) := by
  revert due
  delta State.complete Vernier.due
  induction (t.vernier v).state with
  | busy c =>
    intro due
    have freed : Passes n s ((t.advanceClock c.due).modVernier v fun x => { x with state := .free }) :=
      (h.advanceClock (due _ rfl)).waits (.still rfl rfl)
    exact freed.waits (((((Waits.start _).turned v).stampToCandidate _ _).stampToAudit _ _).stampToEcho v _)
  | _ => exact fun _ => h

/-- What holds of the best conversion so far, and of one that ends by clock `n`, holds of the better of them. -/
theorem better_cases {P : Option (Fin 4) → Prop} {best : Option (Fin 4)} {a : Fin 4} {f : Fin 4 → Nat} {o : Option Nat} :
    P best → ((∀ d, o = some d → d ≤ n) → P (some a)) →
    P (match o with
      | none => best
      | some d =>
        if n < d then best
        else
          match best with
          | none => some a
          | some b => if d < f b then some a else some b) := by
  induction o with
  | none => exact fun old _new => old
  | some d =>
    refine fun old new => ite_cases (fun _late => old) fun late => ?_
    have taken : P (some a) := new fun _e h => Option.some.inj h ▸ Nat.not_lt.mp late
    induction best with
    | none => exact taken
    | some b => exact ite_cases (fun _sooner => taken) fun _later => old

/-- The conversion that is the next to end ends by the clock asked for. -/
theorem firstDue_le {t : State} {v : Fin 4} (h : t.firstDue n = some v) : ∀ d, (t.vernier v).due = some d → d ≤ n :=
  List.foldlRecOn (motive := fun best => ∀ v, best = some v → ∀ d, (t.vernier v).due = some d → d ≤ n) _ _
    (fun _v h => (Option.some_ne_none _ h.symm).elim)
    (fun _best ok _a _mem => better_cases (P := fun best => ∀ v, best = some v → ∀ d, (t.vernier v).due = some d → d ≤ n) ok
      fun due _v same d h => due d (Option.some.inj same ▸ h)) v h

theorem completeUpTo (h : Passes n s t) (fuel : Nat) {m : Nat} (le : m ≤ n) : Passes n s (completeUpTo fuel m t) := by
  induction fuel generalizing t with
  | zero => exact h
  | succ fuel ih =>
    change Passes n s (match t.firstDue m with
      | some v => Machine.completeUpTo fuel m (t.complete v)
      | none => t)
    cases due : t.firstDue m with
    | none => exact h
    | some v => exact ih (h.complete fun d hd => (firstDue_le due d hd).trans le)

theorem advanceTo (h : Passes n s t) {m : Nat} (le : m ≤ n) : Passes n s (t.advanceTo m) := by
  have ended := h.completeUpTo 4 ((Nat.min_le_left m t.windowEnd).trans le)
  exact ((ite (foldl (fun u k => (start n u).waits ((Waits.start u).missSample k)) _ ended) ended).completeUpTo 4 le).advanceClock le

theorem stationPulse (h : Passes n s t) (i : Fin 2) (c : Nat) (a : Arrival) (le : t.latchClock a ≤ n) :
    Passes n s (t.stationPulse i c a) := by
  have counted := (h.advanceTo le).waits (u := (t.advanceTo (t.latchClock a)).modStation i (StationInput.pulse c)) (.still rfl rfl)
  exact ite (counted.waits ((Waits.start _).stampArrival _ _)) counted

theorem pulseBy (h : Passes n s t) (i : Fin 2) : Passes n s (t.pulseBy n i) := by
  delta State.pulseBy
  dsimp only
  split
  · next due => exact h.stationPulse i _ _ (of_decide_eq_true ((Bool.and_eq_true _ _).mp due).2)
  · exact h

theorem pulsesUpTo (h : Passes n s t) : Passes n s (t.pulsesUpTo n) :=
  ite ((h.pulseBy 1).pulseBy 0) ((h.pulseBy 0).pulseBy 1)

end Passes

theorem csv_latchMarks (s : State) : s.latchMarks.csv = s.csv :=
  (apply_ite State.csv _ _ _).trans (ite_self _)

theorem echoOut_openFrame (s : State) (p : Fin 8) : (s.openFrame.cable p).echoOut = (s.cable p).echoOut := by
  by_cases h : s.moment.opened = true
  · exact congrArg (fun t : State => (t.cable p).echoOut) (openFrame_opened h)
  · have opened : s.openFrame = _ := if_neg h
    have passed := ((Passes.start s.tmu.nextStart s).advanceTo (Nat.le_refl _)).2 p
    have same : s.openFrame.csv = (s.advanceTo s.tmu.nextStart).csv := (congrArg State.csv opened).trans (csv_latchMarks _)
    exact (congrArg (fun c : Csv => ((c.cables[p.val]'p.isLt).echoOut)) same).trans passed

/-! ### A pending echo (6.4) -/

theorem echoStep_of {p : Fin 8} {a : Stamp} {s : State} (h : (s.cable p).pendingEcho = some a) :
    s.echoStep p =
      if Config.echoHold ≤ interval a (.exact s.frameMark) then
        s.modCable p fun c => { c with echoOut := some (turnaround a (.exact s.frameMark)), pendingEcho := none }
      else s := by
  delta State.echoStep
  rw [h]

/-- What the row looks for: the coming frame of port `p` carries an echo, where it carried none. -/
def echoSent (p : Fin 8) (s t : State) : Bool := (s.cable p).echoOut.isNone && (t.cable p).echoOut.isSome

/-- Settles O32: the echo is sent once the hold has passed. -/
theorem echoCarriesTheTurnaround : Obligations.EchoCarriesTheTurnaround := by
  intro p a s unsent pending u d
  refine ⟨fun old => ?_, fun young => ?_⟩
  · have sent := (echoStep_of pending).trans (if_pos old)
    have out : echoSent p s (u.echoStep p) = true := Bool.and_eq_true_iff.mpr ⟨congrArg Option.isNone unsent,
      congrArg (fun t : State => (t.cable p).echoOut.isSome) sent |>.trans
        (congrArg (fun c : Cable => c.echoOut.isSome) (State.cable_modCable_self u p _))⟩
    exact congrArg Host.Outcome.next ((ifOutcome_acts (p := echoSent p) out).trans sent)
  · have stays := (echoStep_of pending).trans (if_neg (Int.not_le.mpr young))
    have none_out : (u.cable p).echoOut = none := (echoOut_openFrame s p).trans unsent
    have out : echoSent p s (u.echoStep p) = false := Bool.and_eq_false_iff.mpr
      (.inr ((congrArg (fun t : State => (t.cable p).echoOut.isSome) stays).trans (congrArg Option.isSome none_out)))
    exact congrArg Host.Outcome.next (ifOutcome_idle (p := echoSent p) out)

/-! ### An empty queue (log entry 1) -/

theorem step_of_empty {s : State} (h : s.pending = []) : step s = .next s.idle := by
  delta step
  rw [h]

/-- Where the coming edge does not reach the local frame start, time alone passes. -/
theorem idle_of_within {s : State} (closed : s.moment.opened = false) (within : s.imu.clk + 1 < s.tmu.nextStart) :
    s.idle = (s.pulsesUpTo (s.imu.clk + 1)).advanceTo (s.imu.clk + 1) :=
  if_neg fun h => ((Bool.or_eq_true _ _).mp h).elim (fun h => Bool.false_ne_true (closed.symm.trans h))
    fun h => absurd (of_decide_eq_true h) (Nat.not_le.mpr within)

theorem idle_of_start {s : State} (h : s.moment.opened = true ∨ s.tmu.nextStart ≤ s.imu.clk + 1) :
    s.idle = s.frameStart :=
  if_pos ((Bool.or_eq_true _ _).mpr (h.imp_right decide_eq_true))

theorem clk_advanceTo {s : State} {n : Nat} (h : s.imu.clk ≤ n) : (s.advanceTo n).imu.clk = n := by
  have settled : ((s.advanceTo n).imu.clk ≤ max s.imu.clk n) := ((Passes.start n s).advanceTo (Nat.le_refl n)).1
  exact Nat.le_antisymm (settled.trans (Nat.max_le.mpr ⟨h, Nat.le_refl n⟩)) (Nat.le_max_right _ n)

/-- Settles O2. -/
theorem emptyQueueClockEdge : Obligations.EmptyQueueClockEdge := fun s empty =>
  ⟨fun closed within => ⟨_, (step_of_empty empty).trans (congrArg Host.Outcome.next (idle_of_within closed within)),
    clk_advanceTo (((Passes.start _ s).pulsesUpTo.1).trans (Nat.max_le.mpr ⟨Nat.le_succ _, Nat.le_refl _⟩)),
    (agree_pulsesUpTo _ s).trans (agree_advanceTo _ _)⟩,
  fun start => (step_of_empty empty).trans (congrArg Host.Outcome.next (idle_of_start start))⟩

end Sys2Proof.Machine
end
